-- ==== Sys2Proof/Word.lean ====
section
/-! DEFINITION. The words the spec reads and writes as bits: bytes, and 16, 32 and 64 bit fields. -/

namespace Sys2Proof

abbrev Byte := BitVec 8
abbrev U16 := BitVec 16
abbrev U32 := BitVec 32
abbrev U64 := BitVec 64

end Sys2Proof
end

