-- ==== Sys2Proof/Config.lean ====
section
/-! DEFINITION. The fixed quantities of the part (spec/00_scope.md, Device Parameters), and the one free value: a byte that
a response was taken to bring and did not carry. -/

namespace Sys2Proof

/-- A link, 0 to 7. -/
abbrev LinkId := Fin 8
/-- A logical channel, 0 to 63. -/
abbrev ChanId := Fin 64
/-- An access window, 0 to 7. -/
abbrev WinId := Fin 8
/-- A slot number of a slot map bank, 0 to 127 (R20). -/
abbrev SlotId := Fin 128
/-- An entry of the outstanding table, which is also a bus tag, 0 to 15 (R124). -/
abbrev TagId := Fin 16

/-- Samples a staging FIFO holds (R63). -/
def fifoSamples : Nat := 32
/-- Data transactions outstanding per channel (R78, R126). -/
def dataLimit : Nat := 2
/-- Descriptor reads outstanding per channel (R83, R126). -/
def descLimit : Nat := 1
/-- Buffer records held per channel (R83, R92). -/
def heldRecords : Nat := 3
/-- Pass completions waiting at which a pass-end decision waits (R94). -/
def passCplLimit : Nat := 4
/-- Places of the pending list (R109). -/
def pendingPlaces : Nat := 32
/-- Reservations held at most (R110). -/
def reservationLimit : Nat := 24
/-- Missed boundaries that lose a link (R10). -/
def missedSyncLimit : Nat := 2
/-- Where the slip, loss and merged counts saturate (R18, R114). -/
def countLimit : Nat := 65535
/-- The read-only register DEVICE_ID (R159). -/
def deviceId : U32 := 0x5A380864#32

/-- A byte that no rule gives: the n-th that a transaction takes from a response without it (R129, R168, assumption log 7).
Nothing constrains it. -/
opaque Config.freeByte : Nat → Byte

end Sys2Proof
end

