-- ==== Sys2Proof/Syntax.lean ====
section
/-! DEFINITION. The commands and events of the part: one constructor per row of spec/opcode_table.json.

The commands of the command queue carry no operands here: the Command Processor reads their parameters from the 64-byte
record it holds in hand (R150, R151). Assumption log 3. -/

namespace Sys2Proof

/-- The status of a host bus response (R122). -/
inductive BusStatus where
  | okay
  | error
  deriving DecidableEq, Repr

/-- The response to a read: OKAY carries the whole of its bytes, ERROR none (R122). -/
inductive ReadResult where
  | okay (bytes : List Byte)
  | error
  deriving DecidableEq, Repr

/-- The width of an access to the register window (R159). -/
inductive AccessWidth where
  | w8
  | w16
  | w32
  deriving DecidableEq, Repr

/-- The rows of spec/opcode_table.json. -/
inductive Instr where
  -- commands of the command queue, taken from the record in hand
  | configureLink
  | startLink
  | stopLink
  | writeSlotMap
  | copySlotMap
  | readSlotMap
  | swapSlotMap
  | openChannel
  | closeChannel
  | resumeChannel
  | queryChannel
  | setWindow
  | setCoalescing
  | nop
  | unknownCommand
  -- writes of the register window
  /-- CTRL written with ACTION 0x01; `upper` is what bits 8 to 31 hold (R173). -/
  | enable (upper : BitVec 24)
  /-- CTRL written with ACTION 0x02; `upper` is what bits 8 to 31 hold (R173). -/
  | reset (upper : BitVec 24)
  | cmdqTailWrite (value : U32)
  | chanPostWrite (value : U32)
  | cplqHeadWrite (value : U32)
  | irqCauseWrite (value : U32)
  | irqMaskWrite (value : U32)
  /-- Any write to the 64-byte register window (R159). -/
  | registerWrite (offset : BitVec 6) (width : AccessWidth) (value : U32)
  -- events of the links
  | syncPulseLock (link : LinkId)
  | syncOnTime (link : LinkId)
  | freewheel (link : LinkId)
  | linkLoss (link : LinkId)
  | slip (link : LinkId)
  | frameBoundaryOut (link : LinkId)
  | transmitSlotLaunch (link : LinkId) (slot : SlotId)
  /-- The sample as received; a link of 8-bit slots delivers the low byte. -/
  | receiveSlotComplete (link : LinkId) (slot : SlotId) (sample : U16)
  | groupDeparture (channel : ChanId)
  -- the Memory Port
  | grant
  | cplWriteResponse (tag : TagId) (status : BusStatus)
  | rxWriteResponse (tag : TagId) (status : BusStatus)
  | txReadResponse (tag : TagId) (result : ReadResult)
  | descReadResponse (tag : TagId) (result : ReadResult)
  | cmdReadResponse (tag : TagId) (result : ReadResult)
  | listReadResponse (tag : TagId) (result : ReadResult)
  | listWriteResponse (tag : TagId) (status : BusStatus)
  | configReadResponse (tag : TagId) (result : ReadResult)
  -- the Completion Writer and the Interrupt Coalescer
  | admission
  | coalescingCountReached
  | coalescingTimerExpiry
  -- endings and the pins of the whole part
  | closeEnd (channel : ChanId)
  | softResetEnd
  | powerOnReset
  | powerOnResetRelease
  | timebaseTick
  | responseMatchingNoTransaction (tag : TagId)
  deriving DecidableEq, Repr

end Sys2Proof
end

