-- ==== Sys2Proof/Machine/State.lean ====
section
/-! DEFINITION. The state of the ZT864 as plain data, and its reset values. Each type names the rule of spec/ that gives it.
A field whose reset value the spec gives as "none" is an Option. -/

namespace Sys2Proof.Machine

/-! ## Links (spec/01, R1) -/

inductive SyncRole where
  | roleIn
  | roleOut
  deriving DecidableEq, Repr

inductive IdleMode where
  | drive
  | release
  deriving DecidableEq, Repr

/-- What CONFIGURE_LINK stores (R1, R3). -/
structure LinkConfig where
  slots : Nat
  width : Nat
  role : SyncRole
  idleMode : IdleMode
  idleValue : U16
  deriving DecidableEq, Repr

inductive LinkState where
  | off
  | hunting
  | locked
  deriving DecidableEq, Repr

/-- The link event record (R17, R18). The counts saturate at 65535. -/
structure LinkEvent where
  locked : Bool
  lost : Bool
  slip : Bool
  slips : Nat
  losses : Nat
  linkState : LinkState
  stamp : U32
  deriving DecidableEq, Repr

/-- One Link Framer (R1). `config = none` is the clear configured flag. `txd` is the TXD pin: none while undriven, else the
word of the slot being sent (R14). `launched` and `completed` count the slots of the current frame whose transmit-slot-launch
and whose receive-slot-complete have been raised (R13): the model's own, for each slot raises each event once and in slot
order (assumption log 6). `fsyLow` says that FSY was sampled low at the bit clock before, and `rxBits` holds the last 16 bits
sampled from RXD, the latest lowest (R6, R13, assumption log 6). -/
structure Link where
  config : Option LinkConfig
  state : LinkState
  missed : Nat
  frame : U32
  bitPos : Option Nat
  launched : Nat
  completed : Nat
  event : Option LinkEvent
  txd : Option U16
  fsyLow : Bool
  rxBits : U16
  deriving DecidableEq, Repr

/-- One bit clock of a link, with the levels of FSY and RXD at it (R6). -/
structure BitClock where
  link : LinkId
  fsy : Bool
  rxd : Bool
  deriving DecidableEq, Repr

/-! ## The slot map (spec/02, R20, R21) -/

/-- A present half of a bank entry (R21). -/
structure Half where
  chan : ChanId
  lane : Fin 8
  deriving DecidableEq, Repr

/-- A bank entry: its receive half and its transmit half (R21). -/
structure MapEntry where
  rx : Option Half
  tx : Option Half
  deriving DecidableEq, Repr

/-- A bank of 128 entries (R20). -/
abbrev Bank := Vector MapEntry 128

/-- The bank pair of a link, its swap-pending flag and the pending swap command tag (R20). -/
structure SlotMap where
  active : Bank
  standby : Bank
  swapPending : Bool
  swapTag : Option U32
  deriving DecidableEq, Repr

/-- Whether a list transfer reads a list (WRITE_SLOT_MAP) or writes a bank copy (READ_SLOT_MAP). -/
inductive ListDir where
  | readList
  | writeCopy
  deriving DecidableEq, Repr

/-- The slot list transfer in progress (R25, R30). `pieces` holds the offset and length of each piece, `held` the pieces
that have arrived, `copy` the bank copy to write. `stopped` says that no further piece is asked for. -/
structure ListTransfer where
  link : LinkId
  dir : ListDir
  window : WinId
  tag : U32
  base : U64
  pieces : List (Nat × Nat)
  issued : Nat
  answered : Nat
  held : List (Nat × List Byte)
  copy : List Byte
  error : Bool
  stopped : Bool
  deriving DecidableEq, Repr

/-! ## Completions (spec/06, R115; spec/11, R172) -/

inductive CplKind where
  | commandDone
  | bufferDone
  | linkEvent
  | deviceEvent
  deriving DecidableEq, Repr

/-- The statuses of the completion record table of spec/11. -/
inductive Status where
  | ok
  | unknownCommand
  | badParam
  | notOpen
  | alreadyOpen
  | stillMapped
  | mapped
  | busy
  | notHalted
  | linkActive
  | linkOff
  | notConfigured
  | mapInvalid
  | windowFault
  | inUse
  | busError
  | done
  | partialFrames
  | aborted
  | badDescriptor
  deriving DecidableEq, Repr

/-- The flags of a completion other than PHASE, which the write adds (R105, R172). -/
structure CplFlags where
  overrun : Bool
  underrun : Bool
  gap : Bool
  wrapped : Bool
  tagAbsent : Bool
  deriving DecidableEq, Repr

/-- A completion without its PHASE (R109, R115). `command` is the command kind field (R172). -/
structure Completion where
  kind : CplKind
  command : BitVec 4
  status : Status
  flags : CplFlags
  source : Byte
  tag : U32
  ring : U16
  consumed : U16
  v0 : U32
  v1 : U32
  v2 : U32
  v3 : U32
  stamp : U32
  deriving DecidableEq, Repr

/-! ## Channels (spec/03, R40) -/

inductive Direction where
  | rx
  | tx
  deriving DecidableEq, Repr

inductive Layout where
  | interleaved
  | planar
  deriving DecidableEq, Repr

inductive Priority where
  | normal
  | urgent
  deriving DecidableEq, Repr

/-- The configuration fields that OPEN_CHANNEL stores (R40). An RX channel holds no idle value. -/
structure ChanConfig where
  dir : Direction
  width : Nat
  lanes : Nat
  layout : Layout
  priority : Priority
  threshold : Nat
  ringBase : U64
  ringSize : Nat
  idleValue : Option U16
  deriving DecidableEq, Repr

inductive ChanState where
  | closed
  | starved
  | active
  | halted
  | closing
  deriving DecidableEq, Repr

inductive HaltCause where
  | badDescriptor
  | windowFault
  | busError
  deriving DecidableEq, Repr

inductive CloseMode where
  | graceful
  | abort
  deriving DecidableEq, Repr

/-- The mode and tag of the CLOSE_CHANNEL being carried out (R40). -/
structure CloseRecord where
  mode : CloseMode
  tag : U32
  deriving DecidableEq, Repr

/-! ## Frame groups (spec/04, R62) -/

/-- FILLING is of RX groups, WAITING and LAUNCHING of TX groups, WHOLE of both (R62). -/
inductive GroupCond where
  | filling
  | whole
  | waiting
  | launching
  deriving DecidableEq, Repr

/-- The record, pass and frame that a TX group was read from (R62). -/
structure Source where
  ring : U16
  pass : Nat
  frame : Nat
  deriving DecidableEq, Repr

/-- A frame-group record (R62). A sample position that has not arrived is empty. -/
structure Group where
  cond : GroupCond
  samples : List (Option U16)
  stamp : Option U32
  source : Option Source
  nextLane : Nat
  deriving DecidableEq, Repr

/-! ## Buffer records (spec/05, R88) -/

/-- One pass of a buffer: its number, stamp, progress, flags and tally (R88, R94). `count` numbers the passes without
bound; a completion reports it saturated at 2^32 - 1 (R88, DEDUCED, assumption log 19). -/
structure Pass where
  count : Nat
  stamp : Option U32
  issued : Nat
  answered : Nat
  departed : Nat
  finished : Nat
  overrun : Bool
  underrun : Bool
  gap : Bool
  tally : U32
  deriving DecidableEq, Repr

/-- A record's state (R89). -/
inductive RecState where
  | next
  | poisoned (reason : HaltCause)
  | current
  | draining
  | ending
  | retiring
  deriving DecidableEq, Repr

/-- A buffer record (R88, R87). `ended` are the ended passes in flight, `passCpls` the pass completions waiting, each
with the number of its pass, oldest pass first (R94), `folded` that ended passes were folded into the record (R95), `completion` the record's own completion, formed and not
yet admitted. -/
structure BufferRecord where
  ring : U16
  tag : U16
  tagAbsent : Bool
  notify : Bool
  repeated : Bool
  address : U64
  frames : Nat
  window : Option WinId
  state : RecState
  pass : Pass
  ended : List Pass
  passCpls : List (Nat × Completion)
  folded : Bool
  finalStatus : Status
  completion : Option Completion
  deriving DecidableEq, Repr

/-- The one descriptor read that may be in flight for a channel (R80). -/
inductive DescRead where
  | none
  | outstanding
  | absorbed
  deriving DecidableEq, Repr

/-- A data request of a channel, from its first grant to the response of its last transaction (R73, R75, R78). It is in
formation while `issued < lanes` and it is not cut. `samples` are an RX request's groups (R128). -/
structure DataRequest where
  id : Nat
  ring : U16
  pass : Nat
  first : Nat
  count : Nat
  lanes : Nat
  issued : Nat
  answered : Nat
  error : Bool
  cut : Bool
  absorbed : Bool
  flush : Bool
  samples : List (List U16)
  deriving DecidableEq, Repr

/-- All that the part holds for one channel: the Channel Table's context (R40), the staging FIFO (R62), the Descriptor
Unit's state (R80) and the Stream Mover's requests in flight. `lost` is frames_lost of an RX channel and frames_idle of a
TX channel (R43). -/
structure Channel where
  state : ChanState
  config : Option ChanConfig
  ringWindow : Option WinId
  haltCause : Option HaltCause
  closeRec : Option CloseRecord
  moved : U32
  lost : U32
  discarded : U32
  buffersDone : U32
  groups : List Group
  idleFrame : Option U32
  gapMark : Bool
  producer : U16
  fetch : U16
  consumed : U16
  descRead : DescRead
  list : List BufferRecord
  requests : List DataRequest
  deriving DecidableEq, Repr

/-! ## Queues, windows, port and device -/

/-- A queue's base and number of positions (R103, R145). -/
structure Queue where
  base : U64
  size : Nat
  deriving DecidableEq, Repr

inductive PostKind where
  | post
  | tail
  | head
  deriving DecidableEq, Repr

inductive PostReason where
  | notOpen
  | range
  deriving DecidableEq, Repr

/-- The device event record (R113, R114). The merged count saturates at 65535. -/
structure DeviceEvent where
  first : PostKind
  seenPost : Bool
  seenTail : Bool
  seenHead : Bool
  channel : Option ChanId
  index : U32
  reason : PostReason
  merged : Nat
  deriving DecidableEq, Repr

/-- The Completion Writer (R103). -/
structure Writer where
  queue : Option Queue
  writeIndex : U32
  phase : Bool
  hostHead : U32
  outstanding : Bool
  list : List Completion
  reservations : Nat
  devEvent : Option DeviceEvent
  pointer : ChanId
  deriving DecidableEq, Repr

/-- The Interrupt Coalescer (R117). `timer` is none while stopped, else the elapsed microseconds, without bound
(DEDUCED, assumption log 10). -/
structure Coalescer where
  count : Nat
  time : Nat
  counter : Nat
  timer : Option Nat
  deriving DecidableEq, Repr

/-- Two bits, one per interrupt cause: IRQ_CAUSE or IRQ_MASK (R119, R120). -/
structure Irq where
  completion : Bool
  fault : Bool
  deriving DecidableEq, Repr

/-- The states of the Command Processor (R145). -/
inductive CmdState where
  | idle
  | fetching
  | waitSpace
  | taking
  | stopped
  deriving DecidableEq, Repr

/-- The Command Processor (R145). -/
structure CmdProc where
  queue : Option Queue
  head : U32
  tail : U32
  state : CmdState
  inHand : Option (List Byte)
  reserved : Bool
  deriving DecidableEq, Repr

/-- The transaction kinds (R123). -/
inductive TransKind where
  | cplWrite
  | rxWrite
  | txRead
  | descRead
  | cmdRead
  | listRead
  | listWrite
  | configRead
  deriving DecidableEq, Repr

/-- The reference by which a requester recognizes a response (R124). -/
inductive TransRef where
  | plain
  | data (request lane : Nat)
  | piece (number : Nat)
  | head (index : U32)
  deriving DecidableEq, Repr

/-- An outstanding transaction (R122, R124). `bytes` are a write's bytes as fixed at the grant (R128). -/
structure Transaction where
  kind : TransKind
  cls : Nat
  channel : Option ChanId
  address : U64
  length : Nat
  bytes : List Byte
  ref : TransRef
  deriving DecidableEq, Repr

/-- A request waiting in class 4 (R124). -/
inductive Class4 where
  | cmdRead
  | configRead
  | listPiece (number : Nat)
  deriving DecidableEq, Repr

/-- The Memory Port (R124): `wait1` to `wait3` say for each channel whether a request of that class waits. -/
structure Port where
  table : Vector (Option Transaction) 16
  wait0 : Bool
  wait1 : Vector Bool 64
  wait2 : Vector Bool 64
  wait3 : Vector Bool 64
  wait4 : List Class4
  dataCount : Vector Nat 64
  descCount : Vector Nat 64
  ptr1 : ChanId
  ptr2 : ChanId
  ptr3 : ChanId
  deriving DecidableEq, Repr

/-- An access window (R135). -/
structure Window where
  enabled : Bool
  base : U64
  limit : U64
  read : Bool
  write : Bool
  use : Nat
  deriving DecidableEq, Repr

inductive DevState where
  | off
  | loading
  | running
  | faulted
  | resetting
  deriving DecidableEq, Repr

inductive FaultCode where
  | none
  | configReadError
  | configInvalid
  | cmdReadError
  | cplWriteError
  deriving DecidableEq, Repr

/-- Device Control (R158) and the level of the RESETn pin (R168). -/
structure Device where
  state : DevState
  fault : FaultCode
  configAddr : U64
  loadAddr : Option U64
  resetLow : Bool
  deriving DecidableEq, Repr

/-- The whole part, and the queue of commands that wait to reach it. `freeBytes` is the model's own: how many of the bytes that
no rule gives (`Config.freeByte`) have been used (assumption log 7). `clocks` are the bit clocks of the links that are to come,
the first of them next (assumption log 1). -/
structure State where
  device : Device
  links : Vector Link 8
  maps : Vector SlotMap 8
  transfer : Option ListTransfer
  chans : Vector Channel 64
  windows : Vector Window 8
  port : Port
  cmd : CmdProc
  writer : Writer
  coal : Coalescer
  irqCause : Irq
  irqMask : Irq
  freeBytes : Nat
  pending : List Instr
  clocks : List BitClock
  deriving DecidableEq, Repr

/-! ## Why a step can stop -/

/-- No command of the part stops the model: the part's own faults are states of the part (R164, R56). -/
inductive Fault where
  deriving DecidableEq, Repr

/-- Reasons to refuse a command. -/
inductive Refusal where
  /-- Raised by exec for a row without a meaning; no row is without one. Safe. -/
  | notModelled (mnemonic : String)
  deriving DecidableEq, Repr

/-! ## Reset values -/

/-- R1. -/
def Link.reset : Link :=
  { config := none, state := .off, missed := 0, frame := 0, bitPos := none, launched := 0, completed := 0,
    event := none, txd := none, fsyLow := false, rxBits := 0 }

/-- An entry with both halves absent (R21). -/
def MapEntry.unassigned : MapEntry := { rx := none, tx := none }

/-- A bank of unassigned entries (R20). -/
def Bank.unassigned : Bank := Vector.replicate 128 MapEntry.unassigned

/-- R20. -/
def SlotMap.reset : SlotMap :=
  { active := Bank.unassigned, standby := Bank.unassigned, swapPending := false, swapTag := none }

/-- R40, R62, R80. -/
def Channel.reset : Channel :=
  { state := .closed, config := none, ringWindow := none, haltCause := none, closeRec := none,
    moved := 0, lost := 0, discarded := 0, buffersDone := 0,
    groups := [], idleFrame := none, gapMark := false,
    producer := 0, fetch := 0, consumed := 0, descRead := .none, list := [], requests := [] }

/-- R135. -/
def Window.reset : Window :=
  { enabled := false, base := 0, limit := 0, read := false, write := false, use := 0 }

/-- R124. -/
def Port.reset : Port :=
  { table := Vector.replicate 16 none, wait0 := false,
    wait1 := Vector.replicate 64 false, wait2 := Vector.replicate 64 false, wait3 := Vector.replicate 64 false,
    wait4 := [], dataCount := Vector.replicate 64 0, descCount := Vector.replicate 64 0,
    ptr1 := 63, ptr2 := 63, ptr3 := 63 }

/-- R145. -/
def CmdProc.reset : CmdProc :=
  { queue := none, head := 0, tail := 0, state := .stopped, inHand := none, reserved := false }

/-- R103. -/
def Writer.reset : Writer :=
  { queue := none, writeIndex := 0, phase := true, hostHead := 0, outstanding := false, list := [],
    reservations := 0, devEvent := none, pointer := 63 }

/-- R117. -/
def Coalescer.reset : Coalescer := { count := 1, time := 0, counter := 0, timer := none }

/-- R119, R120. -/
def Irq.clear : Irq := { completion := false, fault := false }

/-- R158, after RESETn has gone high (R168). -/
def Device.reset : Device :=
  { state := .off, fault := .none, configAddr := 0, loadAddr := none, resetLow := false }

/-- The part after a power-on reset and its release (R168). Nothing waits in the queue of commands, and no bit clock is to come. -/
def State.reset : State :=
  { device := Device.reset, links := Vector.replicate 8 Link.reset, maps := Vector.replicate 8 SlotMap.reset,
    transfer := none, chans := Vector.replicate 64 Channel.reset, windows := Vector.replicate 8 Window.reset,
    port := Port.reset, cmd := CmdProc.reset, writer := Writer.reset, coal := Coalescer.reset,
    irqCause := Irq.clear, irqMask := Irq.clear, freeBytes := 0, pending := [], clocks := [] }

end Sys2Proof.Machine
end

