-- ==== Sys2Proof/Machine/Ops.lean ====
section
/-! DEFINITION. The named reads and updates of the state's parts, which every other operation goes through. -/

namespace Sys2Proof.Machine

/-! ## Reading and replacing a part of the state -/

def State.link (s : State) (l : LinkId) : Link := s.links[l.val]
def State.map (s : State) (l : LinkId) : SlotMap := s.maps[l.val]
def State.chan (s : State) (c : ChanId) : Channel := s.chans[c.val]
def State.window (s : State) (w : WinId) : Window := s.windows[w.val]

def State.setLink (s : State) (l : LinkId) (x : Link) : State := { s with links := s.links.set l.val x }
def State.setMap (s : State) (l : LinkId) (x : SlotMap) : State := { s with maps := s.maps.set l.val x }
def State.setChan (s : State) (c : ChanId) (x : Channel) : State := { s with chans := s.chans.set c.val x }
def State.setWindow (s : State) (w : WinId) (x : Window) : State := { s with windows := s.windows.set w.val x }
def State.setDevice (s : State) (x : Device) : State := { s with device := x }
def State.setTransfer (s : State) (x : Option ListTransfer) : State := { s with transfer := x }
def State.setPort (s : State) (x : Port) : State := { s with port := x }
def State.setCmd (s : State) (x : CmdProc) : State := { s with cmd := x }
def State.setWriter (s : State) (x : Writer) : State := { s with writer := x }
def State.setCoal (s : State) (x : Coalescer) : State := { s with coal := x }
def State.setCause (s : State) (x : Irq) : State := { s with irqCause := x }
def State.setMask (s : State) (x : Irq) : State := { s with irqMask := x }
def State.setFreeBytes (s : State) (n : Nat) : State := { s with freeBytes := n }
def State.setPending (s : State) (x : List Instr) : State := { s with pending := x }
def State.setClocks (s : State) (x : List BitClock) : State := { s with clocks := x }

/-! ## The Memory Port's parts -/

def Port.entry (p : Port) (t : TagId) : Option Transaction := p.table[t.val]
def Port.setEntry (p : Port) (t : TagId) (x : Option Transaction) : Port := { p with table := p.table.set t.val x }
def Port.data (p : Port) (c : ChanId) : Nat := p.dataCount[c.val]
def Port.setData (p : Port) (c : ChanId) (n : Nat) : Port := { p with dataCount := p.dataCount.set c.val n }
def Port.desc (p : Port) (c : ChanId) : Nat := p.descCount[c.val]
def Port.setDesc (p : Port) (c : ChanId) (n : Nat) : Port := { p with descCount := p.descCount.set c.val n }

/-- Whether a data request of the channel waits in the class of the priority (R124, R125). -/
def Port.waitData (p : Port) (pr : Priority) (c : ChanId) : Bool :=
  match pr with
  | .urgent => p.wait1[c.val]
  | .normal => p.wait2[c.val]

def Port.setWaitData (p : Port) (pr : Priority) (c : ChanId) (b : Bool) : Port :=
  match pr with
  | .urgent => { p with wait1 := p.wait1.set c.val b }
  | .normal => { p with wait2 := p.wait2.set c.val b }

/-- Whether a descriptor read of the channel waits (R83, R124). -/
def Port.waitDesc (p : Port) (c : ChanId) : Bool := p.wait3[c.val]
def Port.setWaitDesc (p : Port) (c : ChanId) (b : Bool) : Port := { p with wait3 := p.wait3.set c.val b }

/-- No transaction is outstanding (R134). -/
def Port.drained (p : Port) : Bool := (List.finRange 16).all fun t => (p.entry t).isNone

/-- The lowest-numbered free entry (R128). -/
def Port.freeEntry (p : Port) : Option TagId := (List.finRange 16).find? fun t => (p.entry t).isNone

/-! ## Counting -/

/-- The distance from index `b` to index `a` of a queue, modulo 2^32 (spec/00_scope.md). -/
def dist32 (b a : U32) : Nat := (a - b).toNat

/-- The distance from index `b` to index `a` of a ring, modulo 2^16 (spec/00_scope.md). -/
def dist16 (b a : U16) : Nat := (a - b).toNat

/-- A count that saturates at 65535 (R18, R114). -/
def satCount (n : Nat) : Nat := if n < countLimit then n + 1 else n

/-- A 32-bit tally that saturates at 2^32 - 1 (R88). -/
def satTally (x : U32) : U32 := if x = BitVec.allOnes 32 then x else x + 1

/-- A statistics counter wraps (spec/00_scope.md). -/
def addCount (x : U32) (n : Nat) : U32 := x + BitVec.ofNat 32 n

/-- A 32-bit report of a number that saturates at 2^32 - 1 (R88). -/
def report32 (n : Nat) : U32 := if n < 2 ^ 32 then BitVec.ofNat 32 n else BitVec.allOnes 32

/-- Channels in round robin: the first considered is the one after the pointer, then upwards and from 63 to 0
(R112, R127). -/
def roundRobin (pointer : ChanId) : List ChanId := (List.finRange 64).map fun i => pointer + 1 + i

/-! ## The device state -/

def State.running (s : State) : Bool := s.device.state == .running

end Sys2Proof.Machine
end

