-- ==== Sys2Proof/Machine/Flags.lean ====
section
/-! DEFINITION. Every flag the spec computes: the flags and tallies of a pass, the PHASE of an entry, the event set of a
link event, the two interrupt causes and the pins that follow the state. -/

namespace Sys2Proof.Machine

/-! ## The flags and tally of a pass (R88) -/

/-- A pass that has just begun (R86, R93). -/
def Pass.fresh (count : Nat) : Pass :=
  { count := count, stamp := none, issued := 0, answered := 0, departed := 0, finished := 0,
    overrun := false, underrun := false, gap := false, tally := 0 }

/-- A frame dropped at the link for lack of room (R64). -/
def Pass.overrunLoss (p : Pass) : Pass := { p with overrun := true, tally := satTally p.tally }

/-- A frame sent idle (R67). -/
def Pass.underrunIdle (p : Pass) : Pass := { p with underrun := true, tally := satTally p.tally }

/-- An RX group cut short at the link (R69). -/
def Pass.gapLoss (p : Pass) : Pass := { p with gap := true, tally := satTally p.tally }

/-- A break of the frames, or a TX group cut short (R69, R70). -/
def Pass.setGap (p : Pass) : Pass := { p with gap := true }

/-- A frame that has finished at the link without departing (R69, R71). -/
def Pass.finishOne (p : Pass) : Pass := { p with finished := p.finished + 1 }

/-- A frame that has departed whole (R68). -/
def Pass.departOne (p : Pass) : Pass := { p with departed := p.departed + 1, finished := p.finished + 1 }

/-- The flags a BUFFER_DONE reports for a pass (R101). -/
def Pass.flags (p : Pass) (wrapped tagAbsent : Bool) : CplFlags :=
  { overrun := p.overrun, underrun := p.underrun, gap := p.gap, wrapped := wrapped, tagAbsent := tagAbsent }

/-- The flags of every completion but a BUFFER_DONE (R115). -/
def CplFlags.clear : CplFlags :=
  { overrun := false, underrun := false, gap := false, wrapped := false, tagAbsent := false }

/-! ## PHASE (R105) -/

/-- The PHASE flag of the entry with write index `w` in a queue of `size` records. -/
def phaseOf (w : U32) (size : Nat) : Bool := (w.toNat / size) % 2 == 0

/-! ## Link events (R17, R18) -/

/-- The three link events. -/
inductive LinkEventKind where
  | locked
  | lost
  | slip
  deriving DecidableEq, Repr

/-- A link event forms the record, or merges into the held one (R17, R18). -/
def LinkEvent.note (held : Option LinkEvent) (k : LinkEventKind) (st : LinkState) (stamp : U32) : LinkEvent :=
  match held with
  | none =>
    { locked := k == .locked, lost := k == .lost, slip := k == .slip,
      slips := if k = .slip then 1 else 0, losses := if k = .lost then 1 else 0,
      linkState := st, stamp := stamp }
  | some e =>
    { locked := e.locked || k == .locked, lost := e.lost || k == .lost, slip := e.slip || k == .slip,
      slips := if k = .slip then satCount e.slips else e.slips,
      losses := if k = .lost then satCount e.losses else e.losses,
      linkState := st, stamp := stamp }

/-- The event set of a LINK_EVENT: bit 0 LOCKED, bit 1 LOST, bit 2 SLIP (spec/11). -/
def LinkEvent.set (e : LinkEvent) : U32 :=
  0#29 ++ BitVec.ofBool e.slip ++ BitVec.ofBool e.lost ++ BitVec.ofBool e.locked

/-- The link state field of a LINK_EVENT (spec/11). -/
def LinkState.code : LinkState → U32
  | .off => 0
  | .hunting => 1
  | .locked => 2

/-! ## Interrupt causes and output pins -/

/-- A write of 1 clears a cause, a 0 leaves it (R119). -/
def Irq.clearOnes (i : Irq) (v : U32) : Irq :=
  { completion := i.completion && !v.getLsbD 0, fault := i.fault && !v.getLsbD 1 }

/-- The two bits a write of IRQ_MASK stores (R120, R173). -/
def Irq.ofBits (v : U32) : Irq := { completion := v.getLsbD 0, fault := v.getLsbD 1 }

/-- What a read of IRQ_CAUSE or IRQ_MASK returns (R173). -/
def Irq.bits (i : Irq) : U32 := 0#30 ++ BitVec.ofBool i.fault ++ BitVec.ofBool i.completion

/-- INTn is asserted, driven low, while a cause is both set and enabled (R120). -/
def State.intn (s : State) : Bool :=
  (s.irqCause.completion && s.irqMask.completion) || (s.irqCause.fault && s.irqMask.fault)

/-- The FSY output of a link: driven by a LOCKED role OUT link, high at bit position 0 alone, and otherwise undriven
(R7). -/
def Link.fsy (l : Link) : Option Bool :=
  match l.config with
  | some c => if c.role = .roleOut ∧ l.state = .locked then some (l.bitPos == some 0) else none
  | none => none

/-- The level of the TXD output of a link: none while undriven, else the bit of the slot's word at the bit position, most
significant bit first (R6, R14). -/
def Link.txdLevel (l : Link) : Option Bool :=
  match l.config, l.bitPos, l.txd with
  | some c, some p, some w => some (w.getLsbD (c.width - 1 - p % c.width))
  | _, _, _ => none

end Sys2Proof.Machine
end

