-- ==== Sys2Proof/Machine/Operands.lean ====
section
/-! DEFINITION. The byte layouts of spec/11: every record is little-endian. Command records, descriptors, slot list
entries, the configuration record and the completion record. -/

namespace Sys2Proof.Machine

/-! ## Little-endian fields -/

def byteAt (bs : List Byte) (i : Nat) : Byte := bs.getD i 0
def u16At (bs : List Byte) (i : Nat) : U16 := byteAt bs (i + 1) ++ byteAt bs i
def u32At (bs : List Byte) (i : Nat) : U32 := u16At bs (i + 2) ++ u16At bs i
def u64At (bs : List Byte) (i : Nat) : U64 := u32At bs (i + 4) ++ u32At bs i

def bytes16 (x : U16) : List Byte := [x.extractLsb' 0 8, x.extractLsb' 8 8]
def bytes32 (x : U32) : List Byte := bytes16 (x.extractLsb' 0 16) ++ bytes16 (x.extractLsb' 16 16)

/-- Every byte of the first `n` outside `used` is zero. -/
def zeroOutside (bs : List Byte) (n : Nat) (used : List Nat) : Bool :=
  (List.range n).all fun i => used.contains i || byteAt bs i == 0

/-! ## Command records (R151, R169) -/

/-- The kinds of the command catalogue (spec/11, command records). -/
inductive CmdKind where
  | nop
  | configureLink
  | startLink
  | stopLink
  | writeSlotMap
  | copySlotMap
  | readSlotMap
  | swapSlotMap
  | openChannel
  | closeChannel
  | resumeChannel
  | queryChannel
  | setWindow
  | setCoalescing
  deriving DecidableEq, Repr

/-- The kind value of a command (spec/11). -/
def CmdKind.code : CmdKind → Byte
  | .nop => 0x01
  | .configureLink => 0x02
  | .startLink => 0x03
  | .stopLink => 0x04
  | .writeSlotMap => 0x05
  | .copySlotMap => 0x06
  | .readSlotMap => 0x07
  | .swapSlotMap => 0x08
  | .openChannel => 0x09
  | .closeChannel => 0x0A
  | .resumeChannel => 0x0B
  | .queryChannel => 0x0C
  | .setWindow => 0x0D
  | .setCoalescing => 0x0E

/-- The kind field of a completion record: four bits (R172). -/
def CmdKind.nibble (k : CmdKind) : BitVec 4 := k.code.setWidth 4

/-- A kind value outside 0x01 to 0x0E is unknown (R169). -/
def knownKind (b : Byte) : Bool := decide (0x01 ≤ b.toNat) && decide (b.toNat ≤ 0x0E)

def cmdKindByte (r : List Byte) : Byte := byteAt r 0
def cmdTag (r : List Byte) : U32 := u32At r 4

/-- The parameter bytes that the layout lists for a kind (spec/11). -/
def CmdKind.params : CmdKind → List Nat
  | .nop => []
  | .configureLink => [16, 17, 18, 19, 20, 22, 23]
  | .startLink => [16]
  | .stopLink => [16]
  | .writeSlotMap => [16, 18, 19, 24, 25, 26, 27, 28, 29, 30, 31]
  | .copySlotMap => [16]
  | .readSlotMap => [16, 17, 24, 25, 26, 27, 28, 29, 30, 31]
  | .swapSlotMap => [16]
  | .openChannel => [16, 17, 18, 19, 20, 21, 22, 24, 25, 26, 27, 32, 33, 34, 35, 36, 37, 38, 39]
  | .closeChannel => [16, 17]
  | .resumeChannel => [16]
  | .queryChannel => [16]
  | .setWindow => [16, 17, 18, 24, 25, 26, 27, 28, 29, 30, 31, 32, 33, 34, 35, 36, 37, 38, 39]
  | .setCoalescing => [16, 17, 18, 19]

/-- Reserved bits inside a listed parameter byte: bits 1 to 7 of the enable byte and bits 2 to 7 of the permissions byte
of SET_WINDOW (R169). -/
def CmdKind.reservedBitsZero (k : CmdKind) (r : List Byte) : Bool :=
  match k with
  | .setWindow => (byteAt r 17).extractLsb' 1 7 == 0 && (byteAt r 18).extractLsb' 2 6 == 0
  | _ => true

/-- The reserved fields of a record, those of the header included, are zero (R151, R169). -/
def reservedZero (k : CmdKind) (r : List Byte) : Bool :=
  zeroOutside r 64 ([0, 4, 5, 6, 7] ++ k.params) && k.reservedBitsZero r

/-- A link number of 8 to 255 names no link (R169). -/
def linkOf (b : Byte) : Option LinkId := if h : b.toNat < 8 then some ⟨b.toNat, h⟩ else none
/-- A channel number of 64 to 255 names no channel (R169). -/
def chanOf (b : Byte) : Option ChanId := if h : b.toNat < 64 then some ⟨b.toNat, h⟩ else none
/-- A window index of 8 to 255 names no window (R169). -/
def winOf (b : Byte) : Option WinId := if h : b.toNat < 8 then some ⟨b.toNat, h⟩ else none

def roleOf (b : Byte) : Option SyncRole := if b = 0 then some .roleIn else if b = 1 then some .roleOut else none
def idleModeOf (b : Byte) : Option IdleMode := if b = 0 then some .drive else if b = 1 then some .release else none
def directionOf (b : Byte) : Option Direction := if b = 0 then some .rx else if b = 1 then some .tx else none
def layoutOf (b : Byte) : Option Layout := if b = 0 then some .interleaved else if b = 1 then some .planar else none
def priorityOf (b : Byte) : Option Priority := if b = 0 then some .normal else if b = 1 then some .urgent else none
def closeModeOf (b : Byte) : Option CloseMode := if b = 0 then some .graceful else if b = 1 then some .abort else none

/-- A bank by its role: true for ACTIVE (spec/11, READ_SLOT_MAP). -/
def bankSelectOf (b : Byte) : Option Bool := if b = 0 then some true else if b = 1 then some false else none

/-- A slot width or sample width is 8 or 16 bits (R169). -/
def widthOk (b : Byte) : Bool := b == 8 || b == 16

/-- A power of two in a range of exponents (R45, R162). -/
def powerIn (lo hi n : Nat) : Bool := (List.range (hi + 1)).any fun k => decide (lo ≤ k) && n == 2 ^ k

/-- The configuration in a CONFIGURE_LINK record, when its fields are in range (R3, R169). -/
def linkConfigOf (r : List Byte) : Option LinkConfig :=
  match roleOf (byteAt r 19), idleModeOf (byteAt r 20) with
  | some role, some idle =>
    if 4 ≤ (byteAt r 17).toNat ∧ (byteAt r 17).toNat ≤ 128 ∧ widthOk (byteAt r 18) then
      some { slots := (byteAt r 17).toNat, width := (byteAt r 18).toNat, role := role, idleMode := idle,
             idleValue := u16At r 22 }
    else none
  | _, _ => none

/-- The configuration in an OPEN_CHANNEL record, when its fields are in range (R45 check 4, R169). An RX channel holds no
idle value (R40). -/
def chanConfigOf (r : List Byte) : Option ChanConfig :=
  match directionOf (byteAt r 17), layoutOf (byteAt r 20), priorityOf (byteAt r 21) with
  | some dir, some layout, some priority =>
    if widthOk (byteAt r 18)
        ∧ (1 ≤ (byteAt r 19).toNat ∧ (byteAt r 19).toNat ≤ 8)
        ∧ powerIn 0 3 (byteAt r 22).toNat
        ∧ (byteAt r 22).toNat * (byteAt r 19).toNat ≤ 24
        ∧ (u64At r 32).toNat % 16 = 0
        ∧ powerIn 3 10 (u16At r 24).toNat then
      some { dir := dir, width := (byteAt r 18).toNat, lanes := (byteAt r 19).toNat, layout := layout,
             priority := priority, threshold := (byteAt r 22).toNat, ringBase := u64At r 32,
             ringSize := (u16At r 24).toNat,
             idleValue := match dir with
               | .tx => some (u16At r 26)
               | .rx => none }
    else none
  | _, _, _ => none

/-! ## Buffer descriptor (R170) -/

structure Descriptor where
  address : U64
  frames : Nat
  tag : U16
  notify : Bool
  repeated : Bool
  reservedZero : Bool
  deriving DecidableEq, Repr

def descriptorOf (bs : List Byte) : Descriptor :=
  { address := u64At bs 0, frames := (u16At bs 8).toNat, tag := u16At bs 10,
    notify := (byteAt bs 12).getLsbD 0, repeated := (byteAt bs 12).getLsbD 1,
    reservedZero := (byteAt bs 12).extractLsb' 2 6 == 0 && byteAt bs 13 == 0 && byteAt bs 14 == 0 && byteAt bs 15 == 0 }

/-! ## Slot list entry (R171) -/

/-- One half of a list word: its seven fields start at bit `at`: channel, lane, present. -/
def halfOf (w : U32) (at_ : Nat) : Option Half :=
  if w.getLsbD (at_ + 9) then
    some { chan := (w.extractLsb' at_ 6).toFin, lane := (w.extractLsb' (at_ + 6) 3).toFin }
  else none

/-- An absent half has its channel and lane bits zero (R171). -/
def halfReservedZero (w : U32) (at_ : Nat) : Bool := w.getLsbD (at_ + 9) || w.extractLsb' at_ 9 == 0

/-- The slot and entry of a list word, when its slot number and reserved fields pass R26 and R171. -/
def listEntryOf (w : U32) : Option (SlotId × MapEntry) :=
  if h : (w.extractLsb' 0 8).toNat < 128 then
    if w.extractLsb' 28 4 == 0 && halfReservedZero w 8 && halfReservedZero w 18 then
      some (⟨(w.extractLsb' 0 8).toNat, h⟩, { rx := halfOf w 8, tx := halfOf w 18 })
    else none
  else none

/-- The ten bits of a half as READ_SLOT_MAP writes it: an absent half is all zero (R171). -/
def halfBits (h : Option Half) : BitVec 10 :=
  match h with
  | some x => 1#1 ++ BitVec.ofNat 3 x.lane.val ++ BitVec.ofNat 6 x.chan.val
  | none => 0

/-- The list word of a slot and its entry (R29, R171). -/
def listWord (slot : SlotId) (e : MapEntry) : U32 :=
  0#4 ++ halfBits e.tx ++ halfBits e.rx ++ BitVec.ofNat 8 slot.val

/-! ## Configuration record (R162) -/

structure ConfigRecord where
  cmdBase : U64
  cplBase : U64
  cmdLog : Nat
  cplLog : Nat
  count : Nat
  time : Nat
  reservedZero : Bool
  deriving DecidableEq, Repr

def configRecordOf (bs : List Byte) : ConfigRecord :=
  { cmdBase := u64At bs 0, cplBase := u64At bs 8, cmdLog := (byteAt bs 16).toNat, cplLog := (byteAt bs 17).toNat,
    count := (byteAt bs 20).toNat, time := (u16At bs 22).toNat,
    reservedZero := zeroOutside bs 32 [0, 1, 2, 3, 4, 5, 6, 7, 8, 9, 10, 11, 12, 13, 14, 15, 16, 17, 20, 22, 23] }

/-- Two ranges of addresses share at least one byte. -/
def rangesMeet (a la b lb : Nat) : Bool := decide (a < b + lb) && decide (b < a + la)

/-- The checks of the configuration record, in the order of R162; every one must pass. -/
def ConfigRecord.valid (c : ConfigRecord) : Bool :=
  c.reservedZero
    && c.cmdBase.toNat % 64 == 0
    && (decide (4 ≤ c.cmdLog) && decide (c.cmdLog ≤ 12))
    && c.cplBase.toNat % 32 == 0
    && (decide (5 ≤ c.cplLog) && decide (c.cplLog ≤ 16))
    && (decide (c.cmdBase.toNat + 2 ^ c.cmdLog * 64 ≤ 2 ^ 64) && decide (c.cplBase.toNat + 2 ^ c.cplLog * 32 ≤ 2 ^ 64))
    && !(rangesMeet c.cmdBase.toNat (2 ^ c.cmdLog * 64) c.cplBase.toNat (2 ^ c.cplLog * 32))
    && (decide (1 ≤ c.count) && decide (c.count ≤ 255))

/-! ## Completion record (R172) -/

def CplKind.code : CplKind → BitVec 4
  | .commandDone => 1
  | .bufferDone => 2
  | .linkEvent => 3
  | .deviceEvent => 4

/-- The status values of spec/11. OK and DONE share 0x00. -/
def Status.code : Status → Byte
  | .ok => 0x00
  | .unknownCommand => 0x01
  | .badParam => 0x02
  | .notOpen => 0x03
  | .alreadyOpen => 0x04
  | .stillMapped => 0x05
  | .mapped => 0x06
  | .busy => 0x07
  | .notHalted => 0x08
  | .linkActive => 0x09
  | .linkOff => 0x0A
  | .notConfigured => 0x0B
  | .mapInvalid => 0x0C
  | .windowFault => 0x0D
  | .inUse => 0x0E
  | .busError => 0x0F
  | .done => 0x00
  | .partialFrames => 0x10
  | .aborted => 0x11
  | .badDescriptor => 0x12

/-- The 32 bytes of a completion record with the PHASE of its write (R105, R172). -/
def Completion.bytes (c : Completion) (phase : Bool) : List Byte :=
  [c.command ++ c.kind.code, c.status.code,
   0#2 ++ BitVec.ofBool c.flags.tagAbsent ++ BitVec.ofBool c.flags.wrapped ++ BitVec.ofBool c.flags.gap
     ++ BitVec.ofBool c.flags.underrun ++ BitVec.ofBool c.flags.overrun ++ BitVec.ofBool phase,
   c.source] ++ bytes32 c.tag ++ bytes16 c.ring ++ bytes16 c.consumed
    ++ bytes32 c.v0 ++ bytes32 c.v1 ++ bytes32 c.v2 ++ bytes32 c.v3 ++ bytes32 c.stamp

/-! ## Register fields (R173) -/

def postIndex (v : U32) : U16 := v.extractLsb' 0 16
def postChannel (v : U32) : ChanId := (v.extractLsb' 16 6).toFin
def ctrlAction (v : U32) : Byte := v.extractLsb' 0 8

end Sys2Proof.Machine
end

