-- ==== Sys2Proof/Machine/Completions.lean ====
section
/-! DEFINITION. The Completion Writer and the Interrupt Coalescer: the pending list, its reservations, the device event
record, the request of a completion write, and the firing of the coalescer (spec/06). -/

namespace Sys2Proof.Machine

/-! ## Completions -/

/-- A COMMAND_DONE with both index fields and all four values zero (R155, R172). -/
def commandDone (k : CmdKind) (tag : U32) (st : Status) (source : Byte) (stamp : U32) : Completion :=
  { kind := .commandDone, command := k.nibble, status := st, flags := CplFlags.clear, source := source, tag := tag,
    ring := 0, consumed := 0, v0 := 0, v1 := 0, v2 := 0, v3 := 0, stamp := stamp }

/-- The COMMAND_DONE of an unknown kind: command kind field 0, the kind byte as read in value 0 (R150, R172). -/
def unknownDone (tag : U32) (kindByte : Byte) : Completion :=
  { kind := .commandDone, command := 0, status := .unknownCommand, flags := CplFlags.clear, source := 0, tag := tag,
    ring := 0, consumed := 0, v0 := kindByte.setWidth 32, v1 := 0, v2 := 0, v3 := 0, stamp := 0 }

/-- The LINK_EVENT of a link event record (R17, R172). -/
def linkEventDone (l : LinkId) (e : LinkEvent) : Completion :=
  { kind := .linkEvent, command := 0, status := .ok, flags := CplFlags.clear, source := BitVec.ofNat 8 l.val, tag := 0,
    ring := 0, consumed := 0, v0 := e.set, v1 := BitVec.ofNat 32 e.slips, v2 := BitVec.ofNat 32 e.losses,
    v3 := e.linkState.code, stamp := e.stamp }

def PostKind.code : PostKind → BitVec 8
  | .post => 1
  | .tail => 2
  | .head => 3

def PostReason.code : PostReason → U32
  | .notOpen => 1
  | .range => 2

/-- Value 0 of a DEVICE_EVENT: the first kind, and the kinds seen in bits 8, 9 and 10 (spec/11). -/
def DeviceEvent.kinds (e : DeviceEvent) : U32 :=
  0#21 ++ BitVec.ofBool e.seenHead ++ BitVec.ofBool e.seenTail ++ BitVec.ofBool e.seenPost ++ e.first.code

/-- The DEVICE_EVENT of the device event record: its source is the channel of a first kind POST_REJECTED (R114). -/
def deviceEventDone (e : DeviceEvent) : Completion :=
  { kind := .deviceEvent, command := 0, status := .ok, flags := CplFlags.clear,
    source := match e.channel with
      | some c => BitVec.ofNat 8 c.val
      | none => 0,
    tag := 0, ring := 0, consumed := 0, v0 := e.kinds, v1 := e.index, v2 := e.reason.code,
    v3 := BitVec.ofNat 32 e.merged, stamp := 0 }

/-! ## The pending list (R109, R110) -/

/-- 32 minus the entries and the reservations held (R103). -/
def Writer.free (w : Writer) : Nat := pendingPlaces - (w.list.length + w.reservations)

/-- The conditions of R106 that the Writer itself holds. -/
def Writer.wantsWrite (w : Writer) : Bool :=
  match w.queue with
  | some q => !w.list.isEmpty && !w.outstanding && decide (dist32 w.hostHead w.writeIndex < q.size)
  | none => false

/-- The Writer tests R106 and presents its write, while the device is RUNNING. -/
def State.presentCpl (s : State) : State :=
  if s.running then s.setPort { s.port with wait0 := s.writer.wantsWrite } else s

/-- A COMMAND_DONE enters its reservation: it joins the tail of the pending list (R110). -/
def State.formDone (s : State) (c : Completion) : State :=
  (s.setWriter { s.writer with list := s.writer.list ++ [c], reservations := s.writer.reservations - 1 }).presentCpl

/-- An admitted completion joins the tail of the pending list (R109, R111). -/
def State.enterList (s : State) (c : Completion) : State :=
  (s.setWriter { s.writer with list := s.writer.list ++ [c] }).presentCpl

/-! ## The device event record (R113, R114) -/

def DeviceEvent.note (held : Option DeviceEvent) (k : PostKind) (c : Option ChanId) (index : U32) (r : PostReason) :
    DeviceEvent :=
  match held with
  | none =>
    { first := k, seenPost := k == .post, seenTail := k == .tail, seenHead := k == .head, channel := c,
      index := index, reason := r, merged := 0 }
  | some e =>
    { e with seenPost := e.seenPost || k == .post, seenTail := e.seenTail || k == .tail,
             seenHead := e.seenHead || k == .head, merged := satCount e.merged }

/-- A rejected post reaches the Writer. -/
def State.rejectPost (s : State) (k : PostKind) (c : Option ChanId) (index : U32) (r : PostReason) : State :=
  s.setWriter { s.writer with devEvent := some (DeviceEvent.note s.writer.devEvent k c index r) }

/-! ## The coalescer (R117) -/

/-- The coalescer fires: COMPLETION set, counter 0, timer stopped. -/
def State.fire (s : State) : State :=
  (s.setCoal { s.coal with counter := 0, timer := none }).setCause { s.irqCause with completion := true }

/-- An entry has been written; the firing at the count falls in this step (R117, first row, DESIGN CHOICE, log 5). -/
def State.countEntry (s : State) : State :=
  if s.coal.counter + 1 = s.coal.count then s.fire
  else s.setCoal { s.coal with counter := s.coal.counter + 1,
                               timer := if s.coal.counter = 0 then some 0 else s.coal.timer }

/-- A tick of the microsecond timebase while the timer runs (R117, second row, DESIGN CHOICE, assumption log 20). -/
def State.tick (s : State) : State :=
  match s.coal.timer with
  | none => s
  | some e =>
    if s.coal.time ≠ 0 ∧ e + 1 = s.coal.time then s.fire
    else s.setCoal { s.coal with timer := some (e + 1) }

end Sys2Proof.Machine
end

