-- ==== Sys2Proof/Machine/Records.lean ====
section
/-! DEFINITION. What the part does to one channel's buffer list, staging FIFO and requests in flight when a record begins,
ends, retires or leaves, and when the channel halts (spec/03, spec/04, spec/05). Every function here maps one channel;
the windows that its records let go of are returned beside it. -/

namespace Sys2Proof.Machine

/-! ## Configuration and look-ups -/

/-- The configuration of a channel that no OPEN_CHANNEL has configured; no rule reads it. -/
def ChanConfig.blank : ChanConfig :=
  { dir := .rx, width := 8, lanes := 1, layout := .interleaved, priority := .normal, threshold := 1, ringBase := 0,
    ringSize := 8, idleValue := none }

def Channel.cfg (ch : Channel) : ChanConfig := ch.config.getD ChanConfig.blank

/-- Bytes per sample (R77). -/
def ChanConfig.sampleBytes (c : ChanConfig) : Nat := c.width / 8

/-- STARVED, ACTIVE or HALTED (R41). -/
def Channel.isOpen (ch : Channel) : Bool := ch.state == .starved || ch.state == .active || ch.state == .halted

/-- STARVED or ACTIVE (R64, R67, R83). -/
def Channel.flowing (ch : Channel) : Bool := ch.state == .starved || ch.state == .active

/-- The CURRENT record (R89). -/
def Channel.current? (ch : Channel) : Option BufferRecord := ch.list.find? fun r => r.state == .current

def RecState.isPoisoned : RecState → Bool
  | .poisoned _ => true
  | _ => false

/-- A NEXT record or a poisoned record that has not been reported: one a release removes (R49, R99). -/
def BufferRecord.untouched (r : BufferRecord) : Bool := r.state == .next || r.state.isPoisoned

def BufferRecord.begun (r : BufferRecord) : Bool := r.state == .current || r.state == .draining

/-- The transactions of the request are not all issued (R62, R78). -/
def DataRequest.inFormation (q : DataRequest) : Bool := decide (q.issued < q.lanes) && !q.cut

/-- The request in formation (R62). -/
def Channel.formation (ch : Channel) : Option DataRequest := ch.requests.find? DataRequest.inFormation

/-- The requests in flight of one record. -/
def Channel.inFlight (ch : Channel) (r : BufferRecord) : Nat := (ch.requests.filter fun q => q.ring == r.ring).length

/-! ## Updating a record or a pass -/

def Channel.mapRecords (ch : Channel) (f : BufferRecord → BufferRecord) : Channel := { ch with list := ch.list.map f }

def Channel.mapRecord (ch : Channel) (ring : U16) (f : BufferRecord → BufferRecord) : Channel :=
  ch.mapRecords fun r => if r.ring = ring then f r else r

/-- The pass of a record with a given number: the pass in progress or an ended pass in flight. -/
def BufferRecord.mapPass (r : BufferRecord) (n : Nat) (f : Pass → Pass) : BufferRecord :=
  if r.pass.count = n then { r with pass := f r.pass }
  else { r with ended := r.ended.map fun p => if p.count = n then f p else p }

def Channel.mapPass (ch : Channel) (ring : U16) (n : Nat) (f : Pass → Pass) : Channel :=
  ch.mapRecord ring fun r => r.mapPass n f

/-- The pass in progress of the CURRENT record. -/
def Channel.mapCurrent (ch : Channel) (f : Pass → Pass) : Channel :=
  ch.mapRecords fun r => if r.state = .current then { r with pass := f r.pass } else r

/-- The pass that a TX group was read from (R62, R88). -/
def Channel.mapSource (ch : Channel) (src : Option Source) (f : Pass → Pass) : Channel :=
  match src with
  | some x => ch.mapPass x.ring x.pass f
  | none => ch

/-! ## Completions of a record (R101) -/

/-- Frames reported: answered OKAY (RX) or departed whole (TX). -/
def Pass.reported (p : Pass) (d : Direction) : Nat :=
  match d with
  | .rx => p.answered
  | .tx => p.departed

/-- The BUFFER_DONE of one pass of a record. -/
def bufferDone (c : ChanId) (d : Direction) (r : BufferRecord) (p : Pass) (st : Status) (wrapped : Bool)
    (consumed : U16) : Completion :=
  { kind := .bufferDone, command := 0, status := st, flags := p.flags wrapped r.tagAbsent,
    source := BitVec.ofNat 8 c.val, tag := r.tag.setWidth 32, ring := r.ring, consumed := consumed,
    v0 := BitVec.ofNat 32 (p.reported d), v1 := report32 p.count, v2 := p.tally, v3 := 0,
    stamp := p.stamp.getD 0 }

/-! ## Ending a record -/

/-- Ended passes in flight are folded into the record (R95). -/
def BufferRecord.fold (r : BufferRecord) : BufferRecord :=
  { r with folded := r.folded || !r.ended.isEmpty, ended := [] }

/-- The record gets a final status; a status that an error or an earlier ending gave stays (R53, R96, DEDUCED,
assumption log 21). -/
def BufferRecord.setFinal (r : BufferRecord) (st : Status) : BufferRecord :=
  { r.fold with finalStatus := if r.finalStatus = .done then st else r.finalStatus }

/-- The record's outcome is fixed by a halt: ENDING until its own transactions have answered (R96). -/
def BufferRecord.endWith (r : BufferRecord) (st : Status) : BufferRecord := { r.setFinal st with state := .ending }

/-- An ERROR on an absorbed transaction makes its record complete BUS_ERROR in place of its outcome (R53, R96; for a
TX read after a halt: DEDUCED, assumption log 13). -/
def BufferRecord.failed (r : BufferRecord) : BufferRecord :=
  if r.state = .retiring then r else { r.fold with finalStatus := .busError }

/-! ## Requests in flight -/

/-- A request ends at the response of its last transaction; a cut one at that of its last issued lane (R73, R78). -/
def DataRequest.over (q : DataRequest) : Bool := q.answered == q.issued && (q.issued == q.lanes || q.cut)

/-- The frames of an ended request: moved when every transaction of the whole request answered OKAY, and otherwise, for
RX, lost (R73, R78; a cut request: DEDUCED, assumption log 11). -/
def Channel.endRequest (ch : Channel) (q : DataRequest) : Channel :=
  let ch := { ch with requests := ch.requests.filter fun x => x.id != q.id }
  match ch.cfg.dir with
  | .tx => ch
  | .rx =>
    if q.error || q.cut then { ch with lost := addCount ch.lost q.count }
    else
      ({ ch with moved := addCount ch.moved q.count }).mapPass q.ring q.pass
        fun p => { p with answered := p.answered + q.count }

/-- Every request that is over ends. -/
def Channel.reap (ch : Channel) : Channel :=
  ch.requests.foldl (fun c q => if q.over then c.endRequest q else c) ch

/-- At a halt or a close the outstanding transactions are marked absorbed, and the lanes not yet issued are not issued
(R49, R78, R96). -/
def Channel.absorbAll (ch : Channel) : Channel :=
  { ch with
    requests := ch.requests.map fun q => { q with absorbed := true, cut := q.cut || q.inFormation }
    descRead := match ch.descRead with
      | .none => .none
      | _ => .absorbed }

/-! ## Discarding the FIFO (R71) -/

/-- The frame whose launch is in progress: the stamp of the launch group. -/
def Channel.launchFrame (ch : Channel) : Option U32 :=
  match ch.groups.head? with
  | some g => if g.cond = .launching then g.stamp else none
  | none => none

/-- Every group record is removed and counted: frames_lost for RX; frames_discarded for TX, whose groups count as finished
for their source. The Gap mark and the idle frame are cleared; at a halt that discards a launching group the idle frame
takes the number of the frame in progress (DEDUCED, assumption log 28). -/
def Channel.discard (ch : Channel) (atHalt : Bool) : Channel :=
  let n := ch.groups.length
  let idle := if atHalt then ch.launchFrame else none
  match ch.cfg.dir with
  | .rx => { ch with groups := [], gapMark := false, idleFrame := idle, lost := addCount ch.lost n }
  | .tx =>
    let marked := ch.groups.foldl (fun c g => c.mapSource g.source Pass.finishOne) ch
    { marked with groups := [], gapMark := false, idleFrame := idle, discarded := addCount ch.discarded n }

/-! ## Halting (R57, R96 to R99) -/

/-- What every halt does in one change (R57, R96). -/
def Channel.halt (ch : Channel) (cause : HaltCause) : Channel :=
  { (ch.discard true).absorbAll with state := .halted, haltCause := some cause }

/-- The status that reports a cause (R97, R98). -/
def HaltCause.status : HaltCause → Status
  | .badDescriptor => .badDescriptor
  | .windowFault => .windowFault
  | .busError => .busError

/-- A poisoned record would become CURRENT: the channel halts and the record is reported. RX DRAINING records go on; TX
DRAINING records complete ABORTED (R97). -/
def Channel.poisonHalt (ch : Channel) (reason : HaltCause) : Channel :=
  (ch.halt reason).mapRecords fun r =>
    match r.state with
    | .poisoned why => { r with finalStatus := why.status }
    | .draining => if ch.cfg.dir = .tx then r.endWith .aborted else r
    | _ => r

/-- The oldest NEXT or poisoned record becomes CURRENT, taking up the Gap mark; a poisoned one halts the channel; without
one the channel is STARVED (R42, R70, R86, R87, R90). -/
def Channel.promote (ch : Channel) : Channel :=
  match ch.list.find? BufferRecord.untouched with
  | none => { ch with state := .starved }
  | some r =>
    match r.state with
    | .poisoned reason => ch.poisonHalt reason
    | _ =>
      { ch.mapRecord r.ring (fun x =>
          { x with state := .current, pass := if ch.gapMark then x.pass.setGap else x.pass })
        with state := .active, gapMark := false }

/-- NEXT and poisoned records are released and the fetch position falls back to the oldest of them (R49, R99, R100).
The windows of the valid ones are let go. -/
def Channel.release (ch : Channel) : Channel × List WinId :=
  let gone := ch.list.filter BufferRecord.untouched
  ({ ch with
      list := ch.list.filter fun r => !r.untouched
      fetch := match gone.head? with
        | some r => r.ring
        | none => ch.fetch },
    gone.filterMap BufferRecord.window)

/-- A data transaction answered ERROR halts the channel: the record it belongs to completes BUS_ERROR, other begun
records ABORTED, NEXT and poisoned records are released (R99). -/
def Channel.dataHalt (ch : Channel) (ring : U16) : Channel × List WinId :=
  ((ch.halt .busError).mapRecords fun r =>
    if r.begun then r.endWith (if r.ring = ring then .busError else .aborted) else r).release

/-- A descriptor read answered ERROR: a record of reason BUS_ERROR without tag joins and is reported; every begun and NEXT
record completes ABORTED (R98). -/
def Channel.descHalt (ch : Channel) : Channel :=
  let failedRead : BufferRecord :=
    { ring := ch.fetch, tag := 0, tagAbsent := true, notify := false, repeated := false, address := 0, frames := 0,
      window := none, state := .poisoned .busError, pass := Pass.fresh 0, ended := [], passCpls := [], folded := false,
      finalStatus := .busError, completion := none }
  let halted := (ch.halt .busError).mapRecords fun r =>
    match r.state with
    | .current => r.endWith .aborted
    | .draining => r.endWith .aborted
    | .next => r.setFinal .aborted
    | _ => r
  { halted with list := halted.list ++ [failedRead], fetch := ch.fetch + 1 }

/-! ## The end of a pass (R90, R93) -/

/-- A record stands behind in the list, or the producer index stands more than one past the record (R93). -/
def Channel.lastPass (ch : Channel) (r : BufferRecord) : Bool :=
  ch.list.any BufferRecord.untouched || decide (1 < dist16 r.ring ch.producer)

/-- The ended pass joins the ended passes in flight and a new pass begins (R93). -/
def BufferRecord.newPass (r : BufferRecord) : BufferRecord :=
  { r with ended := r.ended ++ [r.pass], pass := Pass.fresh (r.pass.count + 1) }

/-- The CURRENT record becomes DRAINING (R90). -/
def Channel.drain (ch : Channel) : Channel :=
  ch.mapRecords fun r => if r.state = .current then { r with state := .draining } else r

/-- A GRACEFUL flush that has filled the buffer: the record drains and the groups that remain are discarded (R50). -/
def Channel.flushFull (ch : Channel) : Channel := ch.drain.discard false

/-- When the issue progress of the CURRENT record has reached F: a last pass drains and the next record takes its place,
another pass begins, or, with 4 pass completions waiting, the decision waits (R90, R93, R94). -/
def Channel.passEnd (ch : Channel) : Channel :=
  match ch.current? with
  | none => ch
  | some r =>
    if r.pass.issued < r.frames then ch
    else if ch.state = .closing then ch.flushFull
    else if !r.repeated || ch.lastPass r then ch.drain.promote
    else if passCplLimit ≤ r.passCpls.length then ch
    else ch.mapRecords fun x => if x.state = .current then x.newPass else x

/-! ## Retirement and the consumed index (R91, R92, R174) -/

/-- A GRACEFUL RX flush still has groups to write (R50). -/
def Channel.flushing (ch : Channel) : Bool :=
  ch.state == .closing && (ch.closeRec.map CloseRecord.mode) == some .graceful && ch.cfg.dir == .rx
    && !ch.groups.isEmpty

/-- A GRACEFUL RX close has nothing more to write into its CURRENT record (R50). -/
def Channel.flushOver (ch : Channel) : Bool :=
  ch.state == .closing && (ch.closeRec.map CloseRecord.mode) == some .graceful && ch.cfg.dir == .rx
    && ch.groups.isEmpty

/-- Every frame of an ended pass is answered OKAY (RX) or finished at the link (TX) (R94). -/
def BufferRecord.passDone (r : BufferRecord) (d : Direction) (p : Pass) : Bool :=
  match d with
  | .rx => decide (r.frames ≤ p.answered)
  | .tx => decide (r.frames ≤ p.finished)

/-- The record is finished. A record whose outcome is fixed waits for its own transactions only; a DRAINING record for its
writes (RX) or for its frames at the link (TX) and for its ended passes; the CURRENT record of a GRACEFUL RX close for
the end of the flush (R50 to R52, R91, R94, R96). -/
def Channel.finished (ch : Channel) (r : BufferRecord) : Bool :=
  match r.state with
  | .retiring => false
  | .next => r.finalStatus != .done
  | .poisoned _ => r.finalStatus != .done
  | .ending => ch.inFlight r == 0
  | .current =>
    ch.inFlight r == 0 && ((r.finalStatus != .done && !ch.flushing) || ch.flushOver)
  | .draining =>
    ch.inFlight r == 0
      && (r.finalStatus != .done
          || (r.ended.isEmpty && (ch.cfg.dir == .rx || decide (r.frames ≤ r.pass.finished))))

/-- The status a finished record completes with: a flush that ended before the buffer was full gives PARTIAL (R50). -/
def BufferRecord.outcome (r : BufferRecord) : Status :=
  if r.state = .current ∧ r.finalStatus = .done then .partialFrames else r.finalStatus

/-- The record without the ended passes that have all their frames (R94). -/
def BufferRecord.keepPasses (r : BufferRecord) (d : Direction) : BufferRecord :=
  { r with ended := r.ended.filter fun p => !r.passDone d p }

/-- The ended passes that leave the record (R94). -/
def BufferRecord.leavingPasses (r : BufferRecord) (d : Direction) : List Pass := r.ended.filter (r.passDone d)

/-- The consumed index of a list: the oldest record neither retired nor reported, else one past the newest, else the fetch
position (R92). -/
def consumedIndex (list : List BufferRecord) (fetch : U16) : U16 :=
  match list.find? fun r => r.state != .retiring with
  | some r => r.ring
  | none =>
    match list.getLast? with
    | some r => r.ring + 1
    | none => fetch

/-- A finished record retires: its window is let go and its completion formed where one is needed (R91, R97). -/
def BufferRecord.retire (r : BufferRecord) (c : ChanId) (d : Direction) (consumed : U16) : BufferRecord :=
  let st := r.outcome
  { r with
    state := .retiring, window := none, finalStatus := st,
    completion :=
      if r.notify || st != .done then some (bufferDone c d r r.pass st r.folded consumed) else none }

/-- A RETIRING record with nothing left to deliver (R92). -/
def BufferRecord.gone (r : BufferRecord) : Bool :=
  r.state == .retiring && r.completion.isNone && r.passCpls.isEmpty

/-- RETIRING records with nothing to deliver leave from the head of the list (R92). -/
def Channel.leave (ch : Channel) : Channel := { ch with list := ch.list.dropWhile BufferRecord.gone }

/-- A pass completion joins those that wait, oldest pass first: two RX passes in flight may be answered in either order
(R88, R94, R129). -/
def insertPass (x : Nat × Completion) : List (Nat × Completion) → List (Nat × Completion)
  | [] => [x]
  | y :: ys => if x.1 < y.1 then x :: y :: ys else y :: insertPass x ys

/-- The completions of the ended passes that leave a record join those that wait. They form none without NOTIFY. Each carries the
consumed index before the record's own retire, even where the record retires in the same change: R174 gives both 'the end of
the change' and 'has not passed the record at that point', and the model follows the second (DEDUCED, assumption log 32). Where
the record is not the oldest of its list and every older one is RETIRING, that is the record's own ring index (R92), though R174
speaks of 'an older index' there (DEDUCED, assumption log 35). -/
def BufferRecord.passesLeave (r : BufferRecord) (c : ChanId) (d : Direction) (before : U16) : BufferRecord :=
  { r.keepPasses d with
    passCpls := if r.notify then
        (r.leavingPasses d).foldl (fun xs p => insertPass (p.count, bufferDone c d r p .done true before) xs) r.passCpls
      else r.passCpls }

/-- The end of every change of a channel's records: requests that are over end, passes leave, finished records retire, the
consumed index moves, and the completions of the records carry it as it then stands, but that a pass completion formed as its
own record retires has the index before that retire (R91, R92, R94, R174, DEDUCED, assumption log 32), and that behind older
records that are all RETIRING it has the record's own ring index (DEDUCED, assumption log 35). -/
def Channel.settle (ch : Channel) (c : ChanId) : Channel × List WinId :=
  let ch := ch.reap
  let d := ch.cfg.dir
  let kept := ch.list.map fun r => r.keepPasses d
  let fin := kept.filter ch.finished
  let after := fun (retires : BufferRecord → Bool) =>
    consumedIndex (kept.map fun r => if retires r then { r with state := .retiring } else r) ch.fetch
  let consumed := after ch.finished
  let list := ch.list.map fun r =>
    let k := r.passesLeave c d (after fun x => ch.finished x && x.ring != r.ring)
    if ch.finished (r.keepPasses d) then k.retire c d consumed else k
  let counted := fin.filter fun r => !r.state.isPoisoned
  (Channel.leave { ch with
      list := list
      consumed := consumed
      buffersDone := addCount ch.buffersDone counted.length },
    fin.filterMap BufferRecord.window)

/-! ## Offering completions (R112) -/

/-- The completion a channel offers: the oldest completion of the oldest record of its list. A pass completion waits while an older
pass of the record is in flight, so that completions appear in pass order (R94, R109). -/
def Channel.offers (ch : Channel) : Option Completion :=
  match ch.list.head? with
  | none => none
  | some r =>
    match r.passCpls with
    | (n, x) :: _ => if r.ended.all fun p => decide (n < p.count) then some x else none
    | [] => if r.state = .retiring then r.completion else none

/-- The offered completion has been admitted: it is no longer the record's (R92, R112). -/
def Channel.delivered (ch : Channel) : Channel :=
  match ch.list with
  | [] => ch
  | r :: rest =>
    match r.passCpls with
    | _ :: ps => { ch with list := { r with passCpls := ps } :: rest }
    | [] => { ch with list := { r with completion := none } :: rest }

end Sys2Proof.Machine
end

