-- ==== Sys2Proof/Machine/Fifo.lean ====
section
/-! DEFINITION. The staging FIFO at the link: the frame take of a receive channel, the launch and departure of a transmit
channel, and the notices of a broken frame (spec/04, R62 to R70). -/

namespace Sys2Proof.Machine

/-- There is room for one more group: (g + 1) * n samples fit (R63). -/
def Channel.hasRoom (ch : Channel) : Bool := decide ((ch.groups.length + 1) * ch.cfg.lanes ≤ fifoSamples)

/-- The fill group: the tail group while it is FILLING (R62). -/
def Channel.fillGroup (ch : Channel) : Option Group :=
  match ch.groups.getLast? with
  | some g => if g.cond = .filling then some g else none
  | none => none

/-- The launch group: the head group while it is LAUNCHING (R62). -/
def Channel.launchGroup (ch : Channel) : Option Group :=
  match ch.groups.head? with
  | some g => if g.cond = .launching then some g else none
  | none => none

/-- The word of a slot `width` bits wide: an 8-bit slot uses the low byte (R14, R67). -/
def slotWord (width : Nat) (x : U16) : U16 := if width = 8 then x &&& 0x00FF#16 else x

/-- What a TX channel sends in place of data (R67). -/
def Channel.idleWord (ch : Channel) : U16 := slotWord ch.cfg.width (ch.cfg.idleValue.getD 0)

/-! ## Receive (R64, R65) -/

/-- The group that a frame opens at lane 0: WHOLE at once on a 1-lane channel (R64). -/
def openGroup (lanes : Nat) (stamp : U32) (sample : U16) : Group :=
  { cond := if lanes = 1 then .whole else .filling,
    samples := some sample :: List.replicate (lanes - 1) none,
    stamp := some stamp, source := none, nextLane := 1 }

/-- The receive-slot-complete of lane 0 (R64, R58). -/
def Channel.takeFrame (ch : Channel) (stamp : U32) (sample : U16) : Channel :=
  if ch.flowing then
    if ch.hasRoom then { ch with groups := ch.groups ++ [openGroup ch.cfg.lanes stamp sample] }
    else ({ ch with lost := addCount ch.lost 1 }).mapCurrent Pass.overrunLoss
  else { ch with lost := addCount ch.lost 1 }

/-- A group with one more lane's sample; WHOLE with its last lane (R65). -/
def Group.fillLane (g : Group) (lanes k : Nat) (sample : U16) : Group :=
  { g with samples := g.samples.set k (some sample), nextLane := k + 1,
           cond := if k + 1 = lanes then .whole else .filling }

/-- The receive-slot-complete of a later lane (R65). -/
def Channel.takeLane (ch : Channel) (k : Nat) (sample : U16) : Channel :=
  match ch.fillGroup with
  | some g =>
    if ch.flowing && g.nextLane == k then
      { ch with groups := ch.groups.dropLast ++ [g.fillLane ch.cfg.lanes k sample] }
    else ch
  | none => ch

/-- A receive-slot-complete passed to an RX channel (R64, R65). -/
def Channel.receive (ch : Channel) (lane : Nat) (stamp : U32) (sample : U16) : Channel :=
  if lane = 0 then ch.takeFrame stamp sample else ch.takeLane lane sample

/-! ## Transmit (R67, R68) -/

/-- Frames of the pass have not finished at the link. -/
def BufferRecord.toDepart (r : BufferRecord) (p : Pass) : Bool := decide (p.finished < r.frames)

/-- The oldest ended pass with frames to depart takes an UNDERRUN; `frames` is F (R88). -/
def underrunEnded (frames : Nat) : List Pass → List Pass
  | [] => []
  | p :: ps => if p.finished < frames then p.underrunIdle :: ps else p :: underrunEnded frames ps

/-- UNDERRUN and its tally go to the oldest pass of the record that still has frames to depart: an ended one, else the pass in
progress (R88). -/
def BufferRecord.underrun (r : BufferRecord) : BufferRecord :=
  if r.ended.any r.toDepart then { r with ended := underrunEnded r.frames r.ended }
  else { r with pass := r.pass.underrunIdle }

/-- The record has frames to depart: a CURRENT or DRAINING one whose ended passes or pass in progress have (R67, R96). -/
def BufferRecord.departing (r : BufferRecord) : Bool := r.begun && (r.ended.any r.toDepart || r.toDepart r.pass)

/-- The oldest held record with frames to depart takes an UNDERRUN (R67). -/
def underrunOldest : List BufferRecord → List BufferRecord
  | [] => []
  | r :: rest => if r.departing then r.underrun :: rest else r :: underrunOldest rest

/-- A launch group whose last lane has been sent departs: frames_moved, and departed and finished of its source (R68). -/
def Channel.depart (ch : Channel) : Channel :=
  match ch.launchGroup with
  | some g =>
    if g.nextLane = ch.cfg.lanes then
      ({ ch with groups := ch.groups.tail, moved := addCount ch.moved 1 }).mapSource g.source Pass.departOne
    else ch
  | none => ch

/-- The sample of a lane of a group. -/
def Group.sample (g : Group) (k : Nat) : U16 := (g.samples.getD k none).getD 0

/-- The head group launches; the stamp of frame 0 becomes that of its pass (R67). -/
def Channel.launch (ch : Channel) (g : Group) (frame : U32) : Channel :=
  let ch' := { ch with
    groups := { g with cond := .launching, stamp := some frame, nextLane := 1 } :: ch.groups.tail
    idleFrame := none }
  match g.source with
  | some src => if src.frame = 0 then ch'.mapPass src.ring src.pass fun p => { p with stamp := some frame } else ch'
  | none => ch'

/-- The channel sends an idle frame (R67, R58). -/
def Channel.idle (ch : Channel) (frame : U32) : Channel :=
  { ch with
    idleFrame := some frame
    lost := addCount ch.lost 1
    list := if ch.flowing then underrunOldest ch.list else ch.list }

/-- The transmit-slot-launch of lane 0: the channel and the word on TXD (R67). -/
def Channel.launchFrame0 (ch : Channel) (frame : U32) : Channel × U16 :=
  match ch.groups.head? with
  | some g =>
    if ch.flowing && g.cond == .whole then (ch.launch g frame, slotWord ch.cfg.width (g.sample 0))
    else (ch.idle frame, ch.idleWord)
  | none => (ch.idle frame, ch.idleWord)

/-- The transmit-slot-launch of a later lane: the channel and the word on TXD (R68). -/
def Channel.launchLane (ch : Channel) (k : Nat) : Channel × U16 :=
  match ch.launchGroup with
  | some g =>
    if g.nextLane = k then
      ({ ch with groups := { g with nextLane := k + 1 } :: ch.groups.tail }, slotWord ch.cfg.width (g.sample k))
    else (ch, ch.idleWord)
  | none => (ch, ch.idleWord)

/-- A transmit-slot-launch passed to a TX channel (R67, R68). A departure due at the same point is taken first
(R68, DEDUCED, assumption log 15). -/
def Channel.transmit (ch : Channel) (lane : Nat) (frame : U32) : Channel × U16 :=
  if lane = 0 then ch.depart.launchFrame0 frame else ch.launchLane lane

/-! ## Breaks of the frames (R69, R70) -/

/-- The group in progress is ended and the idle frame cleared (R69). -/
def Channel.cutShort (ch : Channel) : Channel :=
  let ch := { ch with idleFrame := none }
  match ch.cfg.dir with
  | .rx =>
    match ch.fillGroup with
    | some _ =>
      let ch := { ch with groups := ch.groups.dropLast, lost := addCount ch.lost 1 }
      match ch.current? with
      | some _ => ch.mapCurrent Pass.gapLoss
      | none => { ch with gapMark := true }
    | none => ch
  | .tx =>
    match ch.launchGroup with
    | some g =>
      ({ ch with groups := ch.groups.tail, discarded := addCount ch.discarded 1 }).mapSource g.source
        fun p => p.finishOne.setGap
    | none => ch

/-- A link-down notice: the group in progress is ended, then GAP is set on the CURRENT record of an RX channel, or the Gap
mark of a STARVED one (R69, R70; a CLOSING channel's too: DEDUCED, assumption log 16). -/
def Channel.linkDown (ch : Channel) : Channel :=
  let ch := ch.cutShort
  match ch.cfg.dir with
  | .tx => ch
  | .rx =>
    match ch.current? with
    | some _ => ch.mapCurrent Pass.setGap
    | none => if ch.state = .starved then { ch with gapMark := true } else ch

end Sys2Proof.Machine
end

