-- ==== Sys2Proof/Machine/Mover.lean ====
section
/-! DEFINITION. The Stream Mover and the Descriptor Unit on one channel: when a request is wanted, what a grant fixes, what
a response does (spec/04 R72 to R78, spec/05 R83 to R87). -/

namespace Sys2Proof.Machine

/-! ## When a request is wanted (R72, R74, R78, R83) -/

/-- WHOLE groups at the head of the FIFO (R73). -/
def Channel.wholeRun (ch : Channel) : Nat := (ch.groups.takeWhile fun g => g.cond == .whole).length

/-- ⌊32 / n⌋ minus the group records in every condition (R74). -/
def Channel.freeRoom (ch : Channel) : Nat := fifoSamples / ch.cfg.lanes - ch.groups.length

/-- Frames of the CURRENT record not yet issued or read. -/
def BufferRecord.left (r : BufferRecord) : Nat := r.frames - r.pass.issued

/-- A new data request may be presented (R72, R74). -/
def Channel.wantsFirst (ch : Channel) : Bool :=
  match ch.current? with
  | none => false
  | some r =>
    decide (r.pass.issued < r.frames) &&
    match ch.cfg.dir with
    | .rx =>
      (ch.state == .active && (decide (ch.cfg.threshold ≤ ch.wholeRun) || decide (r.left ≤ ch.wholeRun)))
        || (ch.flushing && decide (1 ≤ ch.wholeRun))
    | .tx => ch.state == .active && decide (ch.cfg.threshold ≤ ch.freeRoom)

/-- A data request is to wait at the Memory Port: the next lane of the request in formation, or a new request, while fewer
than 2 data transactions are outstanding (R72, R74, R78). -/
def Channel.wantsData (ch : Channel) (outstanding : Nat) : Bool :=
  decide (outstanding < dataLimit) &&
  match ch.formation with
  | some _ => true
  | none => ch.wantsFirst

/-- A descriptor read is to wait at the Memory Port (R83); the device state is tested where it is presented. -/
def Channel.wantsDesc (ch : Channel) : Bool :=
  ch.flowing && ch.fetch != ch.producer && decide (ch.list.length < heldRecords)
    && !(match ch.list.getLast? with
         | some r => r.state.isPoisoned
         | none => false)
    && ch.descRead == .none

/-- The address of the descriptor at the fetch position (R80, R83). -/
def Channel.descAddress (ch : Channel) : U64 :=
  ch.cfg.ringBase + BitVec.ofNat 64 (ch.fetch.toNat % ch.cfg.ringSize * 16)

/-! ## Grants (R73, R75, R77, R78) -/

/-- What a data grant fixes: the address, the length, the bytes of a write, and the request and lane. -/
structure Issue where
  address : U64
  length : Nat
  bytes : List Byte
  request : Nat
  lane : Nat
  deriving DecidableEq, Repr

/-- A sample in host memory: one byte, or two with the low byte first (R77). -/
def sampleBytes (width : Nat) (x : U16) : List Byte := if width = 8 then [x.extractLsb' 0 8] else bytes16 x

/-- A number no request in flight of the channel has. -/
def Channel.freshId (ch : Channel) : Nat := ch.requests.foldl (fun m q => max m (q.id + 1)) 0

/-- The transaction of one lane of a request: the whole request when INTERLEAVED (R77, R78). -/
def issueOf (cfg : ChanConfig) (r : BufferRecord) (q : DataRequest) (lane : Nat) : Issue :=
  match cfg.layout with
  | .interleaved =>
    { address := r.address + BitVec.ofNat 64 (q.first * cfg.lanes * cfg.sampleBytes)
      length := q.count * cfg.lanes * cfg.sampleBytes
      bytes := q.samples.flatMap fun g => g.flatMap (sampleBytes cfg.width)
      request := q.id, lane := lane }
  | .planar =>
    { address := r.address + BitVec.ofNat 64 ((lane * r.frames + q.first) * cfg.sampleBytes)
      length := q.count * cfg.sampleBytes
      bytes := q.samples.flatMap fun g => sampleBytes cfg.width (g.getD lane 0)
      request := q.id, lane := lane }

/-- Transactions of one request (R77). -/
def ChanConfig.transactions (c : ChanConfig) : Nat :=
  match c.layout with
  | .interleaved => 1
  | .planar => c.lanes

/-- The frames a first grant fixes (R73, R75). -/
def Channel.grantFrames (ch : Channel) (r : BufferRecord) : Nat :=
  match ch.cfg.dir with
  | .rx => min ch.cfg.threshold (min ch.wholeRun r.left)
  | .tx => min ch.cfg.threshold r.left

/-- A WAITING group reserved for one frame of a read (R75). -/
def waitingGroup (lanes : Nat) (r : BufferRecord) (frame : Nat) : Group :=
  { cond := .waiting, samples := List.replicate lanes none, stamp := none,
    source := some { ring := r.ring, pass := r.pass.count, frame := frame }, nextLane := 0 }

/-- The first grant of a request: RX groups leave the head of the FIFO, TX groups are reserved at its tail; the issue
progress advances, and the pass may end (R73, R75, R90, R93). -/
def Channel.firstGrant (ch : Channel) (r : BufferRecord) : Channel × Issue :=
  let f := ch.grantFrames r
  let taken := ch.groups.take f
  let samples := match ch.cfg.dir with
    | .rx => taken.map fun g => g.samples.map fun x => x.getD 0
    | .tx => []
  let groups := match ch.cfg.dir with
    | .rx => ch.groups.drop f
    | .tx => ch.groups ++ (List.range f).map fun i => waitingGroup ch.cfg.lanes r (r.pass.issued + i)
  let stamp := match ch.cfg.dir with
    | .rx => if r.pass.issued = 0 then (taken.head?).bind Group.stamp else r.pass.stamp
    | .tx => r.pass.stamp
  let q : DataRequest :=
    { id := ch.freshId, ring := r.ring, pass := r.pass.count, first := r.pass.issued, count := f,
      lanes := ch.cfg.transactions, issued := 1, answered := 0, error := false, cut := false, absorbed := false,
      flush := ch.state == .closing, samples := samples }
  let ch' := ({ ch with groups := groups, requests := ch.requests ++ [q] }).mapCurrent fun p =>
    { p with issued := p.issued + f, stamp := stamp }
  (ch'.passEnd, issueOf ch.cfg r q 0)

/-- The grant of the next lane of the request in formation (R78). -/
def Channel.laneGrant (ch : Channel) (q : DataRequest) : Channel × Option Issue :=
  ({ ch with requests := ch.requests.map fun x => if x.id = q.id then { x with issued := x.issued + 1 } else x },
    (ch.list.find? fun r => r.ring == q.ring).map fun r => issueOf ch.cfg r q q.issued)

/-- A data grant to the channel (R128). -/
def Channel.dataGrant (ch : Channel) : Channel × Option Issue :=
  match ch.formation with
  | some q => ch.laneGrant q
  | none =>
    match ch.current? with
    | some r => ((ch.firstGrant r).1, some (ch.firstGrant r).2)
    | none => (ch, none)

/-! ## Responses -/

/-- One more transaction of a request has answered. -/
def Channel.answer (ch : Channel) (id : Nat) (ok : Bool) : Channel :=
  { ch with requests := ch.requests.map fun q =>
      if q.id = id then { q with answered := q.answered + 1, error := q.error || !ok } else q }

/-- The transaction's error makes no halt claim: it was absorbed by a halt or a close, or the channel is not STARVED or
ACTIVE (R53, R56, R96). -/
def Channel.absorbs (ch : Channel) (q : DataRequest) : Bool := q.absorbed || !ch.flowing

/-- A flush write answered ERROR ends the flush: the FIFO is discarded and no further lane is issued
(R53, DEDUCED, assumption log 12, 29). -/
def Channel.endFlush (ch : Channel) (q : DataRequest) : Channel :=
  if ch.state = .closing ∧ q.flush then (ch.discard false).absorbAll else ch

/-- An ERROR on a data transaction (R53, R96, R99). -/
def Channel.dataError (ch : Channel) (q : DataRequest) : Channel × List WinId :=
  if ch.absorbs q then ((ch.mapRecord q.ring BufferRecord.failed).endFlush q, []) else ch.reap.dataHalt q.ring

/-- The samples of a read response fill the WAITING groups reserved for it; a group with all its samples becomes WHOLE
(R76). `bytes` are those of one INTERLEAVED request or of one PLANAR lane. -/
def Group.fillRead (g : Group) (cfg : ChanConfig) (q : DataRequest) (lane : Nat) (bytes : List Byte) : Group :=
  match g.source with
  | none => g
  | some src =>
    if g.cond = .waiting ∧ src.ring = q.ring ∧ src.pass = q.pass ∧ q.first ≤ src.frame
        ∧ src.frame < q.first + q.count then
      let i := src.frame - q.first
      let word := fun (at_ : Nat) =>
        if cfg.width = 8 then (byteAt bytes at_).setWidth 16 else u16At bytes (at_ * 2)
      let samples := match cfg.layout with
        | .interleaved => (List.range cfg.lanes).map fun k => some (word (i * cfg.lanes + k))
        | .planar => g.samples.set lane (some (word i))
      { g with samples := samples, cond := if samples.all Option.isSome then .whole else .waiting }
    else g

/-- An RX write response, or a TX read response without bytes, on the channel of its request (R53, R73, R76, R78, R96,
R99). -/
def Channel.dataResponse (ch : Channel) (id : Nat) (ok : Bool) : Channel × List WinId :=
  match ch.requests.find? fun q => q.id == id with
  | none => (ch, [])
  | some q =>
    let ch := ch.answer id ok
    if ok then (ch, []) else ch.dataError q

/-- A TX read answered OKAY (R76): absorbed data is dropped. -/
def Channel.readData (ch : Channel) (id lane : Nat) (bytes : List Byte) : Channel :=
  match ch.requests.find? fun q => q.id == id with
  | none => ch
  | some q =>
    if ch.absorbs q then ch
    else { ch with groups := ch.groups.map fun g => g.fillRead ch.cfg q lane bytes }

/-! ## Descriptors (R84 to R87) -/

/-- The reason a descriptor is poisoned, by the checks of R85 before the window check. -/
def Descriptor.malformed (d : Descriptor) (cfg : ChanConfig) : Bool :=
  !d.reservedZero || d.frames == 0 || d.address.toNat % cfg.sampleBytes != 0

/-- The bytes a buffer spans (R80). -/
def Descriptor.span (d : Descriptor) (cfg : ChanConfig) : Nat := d.frames * cfg.lanes * cfg.sampleBytes

/-- The record of a descriptor: valid with its window, or poisoned with the reason (R86, R87). A poisoned record holds the
ring index, the tag and the reason alone. -/
def Descriptor.record (d : Descriptor) (ring : U16) (outcome : Except HaltCause WinId) : BufferRecord :=
  match outcome with
  | .ok w =>
    { ring := ring, tag := d.tag, tagAbsent := false, notify := d.notify, repeated := d.repeated, address := d.address,
      frames := d.frames, window := some w, state := .next, pass := Pass.fresh 1, ended := [], passCpls := [],
      folded := false, finalStatus := .done, completion := none }
  | .error reason =>
    { ring := ring, tag := d.tag, tagAbsent := false, notify := false, repeated := false, address := 0, frames := 0,
      window := none, state := .poisoned reason, pass := Pass.fresh 0, ended := [], passCpls := [],
      folded := false, finalStatus := .done, completion := none }

/-- A descriptor read answered and not absorbed: the fetch position moves on and the record joins the tail; with no
CURRENT record it would become CURRENT at once (R84, R86, R87). -/
def Channel.join (ch : Channel) (r : BufferRecord) : Channel :=
  let ch' := { ch with list := ch.list ++ [r], fetch := ch.fetch + 1 }
  match ch.current? with
  | some _ => ch'
  | none => ch'.promote

/-! ## Close (R49 to R52) -/

/-- Every begun record gets the close's status (R51, R52). -/
def Channel.endBegun (ch : Channel) (st : Status) : Channel :=
  ch.mapRecords fun r => if r.begun then r.setFinal st else r

/-- The mode's treatment of the FIFO and of the begun records (R50, R51, R52). -/
def Channel.closeBy (ch : Channel) (mode : CloseMode) : Channel :=
  match mode, ch.cfg.dir with
  | .abort, _ => (ch.discard false).endBegun .aborted
  | .graceful, .tx => (ch.discard false).endBegun .partialFrames
  | .graceful, .rx =>
    match ch.current? with
    | none => ch.discard false
    | some _ => (ch.mapRecords fun r => if r.state = .current then r.fold else r).passEnd

/-- CLOSE_CHANNEL is taken (R49): the channel is CLOSING, NEXT and poisoned records are released, the outstanding
transactions are absorbed, and the mode decides the rest. -/
def Channel.close (ch : Channel) (mode : CloseMode) (tag : U32) : Channel × List WinId :=
  let (ch1, ws) := ({ ch with
    state := .closing, haltCause := none, closeRec := some { mode := mode, tag := tag } }).absorbAll.release
  (ch1.closeBy mode, ws)

/-- Nothing of a closing channel is in flight or held (R54). -/
def Channel.closeDone (ch : Channel) : Bool :=
  ch.state == .closing && ch.requests.isEmpty && ch.descRead == .none && ch.groups.isEmpty && ch.list.isEmpty

end Sys2Proof.Machine
end

