-- ==== Sys2Proof/Machine/Windows.lean ====
section
/-! DEFINITION. The range check and the use counts of the access windows (R136 to R139). -/

namespace Sys2Proof.Machine

/-- The permission a check needs (R137). -/
inductive Access where
  | read
  | write
  deriving DecidableEq, Repr

def Window.grants (w : Window) (a : Access) : Bool :=
  match a with
  | .read => w.read
  | .write => w.write

/-- The window qualifies for `length` bytes from `start` (R136). A range that would pass 2^64 - 1 lies beyond every
limit. -/
def Window.qualifies (w : Window) (start length : Nat) (a : Access) : Bool :=
  w.enabled && w.grants a && decide (w.base.toNat ≤ start) && decide (start + length ≤ w.limit.toNat + 1)

/-- The lowest-numbered window that qualifies (R136). -/
def State.findWindow (s : State) (start length : Nat) (a : Access) : Option WinId :=
  (List.finRange 8).find? fun w => (s.window w).qualifies start length a

/-- A holder takes one reference (R138). -/
def State.claim (s : State) (w : WinId) : State :=
  s.setWindow w { s.window w with use := (s.window w).use + 1 }

/-- A holder lets go of one reference (R139). -/
def State.letGo (s : State) (w : WinId) : State :=
  s.setWindow w { s.window w with use := (s.window w).use - 1 }

/-- Several holders let go. -/
def State.letGoAll (s : State) (ws : List WinId) : State := ws.foldl State.letGo s

end Sys2Proof.Machine
end

