-- ==== Sys2Proof/Machine/Processor.lean ====
section
/-! DEFINITION. The Command Processor's take of a command and its end (spec/09), and the one way in which a changed channel
goes back into the state: its records settle, its windows are let go, its requests are presented, its close ends. -/

namespace Sys2Proof.Machine

/-- What a step can answer. -/
abbrev Result := Host.Outcome State Fault Refusal

/-! ## Requests and closes -/

/-- The Stream Mover and the Descriptor Unit test their conditions for a channel, and present or withdraw its requests.
Outside RUNNING nothing new is presented, and what waits can only be withdrawn (R72, R74, R79, R83, R102, R125,
DEDUCED, assumption log 23). -/
def State.present (s : State) (c : ChanId) : State :=
  let ch := s.chan c
  let p := s.port
  let pr := ch.cfg.priority
  let d := ch.wantsData (p.data c) && (s.running || p.waitData pr c)
  let x := ch.wantsDesc && (s.running || p.waitDesc c)
  s.setPort ((p.setWaitData pr c d).setWaitDesc c x)

/-- The COMMAND_DONE of a close (R54). -/
def closeDoneOf (c : ChanId) (ch : Channel) (tag : U32) : Completion :=
  { commandDone .closeChannel tag .ok (BitVec.ofNat 8 c.val) 0 with
    consumed := ch.consumed, v0 := ch.moved, v1 := ch.lost, v2 := ch.discarded, v3 := ch.buffersDone }

/-- The end of a close: the ring's window reference is released, the channel is CLOSED, and the COMMAND_DONE enters its
reservation (R54). The configuration fields, the ring window among them, keep their values (R40). -/
def State.finishClose (s : State) (c : ChanId) : State :=
  let ch := s.chan c
  let s := match ch.ringWindow with
    | some w => s.letGo w
    | none => s
  let s := s.setChan c { ch with state := .closed, closeRec := none }
  s.formDone (closeDoneOf c ch ((ch.closeRec.map CloseRecord.tag).getD 0))

/-! ## Reservations (R110, R149) -/

/-- A reservation is granted: the processor has it in hand and enters TAKING (R110, R149). -/
def State.grantReservation (s : State) : State :=
  (s.setWriter { s.writer with reservations := s.writer.reservations + 1 }).setCmd
    { s.cmd with state := .taking, reserved := true }

/-- The request for a reservation would be granted at once: a place is free, fewer than 24 reservations are held and no
link event record or device event record waits before it (R110, R111, R149). -/
def State.reservationNow (s : State) : Bool :=
  decide (0 < s.writer.free) && decide (s.writer.reservations < reservationLimit) && s.writer.devEvent.isNone
    && (List.finRange 8).all fun l => (s.link l).event.isNone

/-- The command in hand asks for its reservation, and the arbiter grants it in the change that lets it: an answered CMD_READ, or
a deferred completion formed (the end of a close, the performance of a swap), which lowers the reservations held (R111, R149). -/
def State.grantWaiting (s : State) : State :=
  if s.running ∧ s.cmd.state = .waitSpace ∧ s.reservationNow then s.grantReservation else s

/-! ## A changed channel goes back into the state -/

/-- A closing channel with nothing left ends its close at once (R54, DESIGN CHOICE, assumption log 5). While RESETTING nothing
is released (R144). -/
def State.endClose (s : State) (c : ChanId) : State :=
  if (s.chan c).closeDone ∧ s.device.state ≠ .resetting then (s.finishClose c).grantWaiting else s

/-- A changed channel, with the windows its change let go, goes back into the state. While RESETTING the change of the channel
is all: nothing is claimed, released, presented or completed (R134, R144, R167). -/
def State.update (s : State) (c : ChanId) (r : Channel × List WinId) : State :=
  let settled := r.1.settle c
  if s.device.state = .resetting then s.setChan c r.1
  else (((s.setChan c settled.1).letGoAll (r.2 ++ settled.2)).present c).endClose c

/-! ## Takes (R150) -/

/-- The command to be taken now and the state at its take: the processor is TAKING a command not yet dispatched, or waits in
WAIT_SPACE for a reservation that is granted in the same run (R149, R150). -/
def State.atTake (s : State) : Option (List Byte × State) :=
  match s.cmd.inHand with
  | none => none
  | some r =>
    if !s.running then none
    else if s.cmd.state = .taking ∧ s.cmd.reserved ∧ s.transfer.isNone then some (r, s)
    else if s.cmd.state = .waitSpace ∧ s.reservationNow then some (r, s.grantReservation)
    else none

/-- A command of a kind is taken by its owner; without such a command to take, nothing happens (DESIGN CHOICE, log 2, 3). -/
def State.take (s : State) (k : CmdKind) (owner : List Byte → State → State) : State :=
  match s.atTake with
  | some (r, s') => if cmdKindByte r = k.code then owner r s' else s
  | none => s

/-- The processor presents the CMD_READ of the record at the head (R148). -/
def State.presentCmdRead (s : State) : State :=
  (s.setCmd { s.cmd with state := .fetching }).setPort { s.port with wait4 := s.port.wait4 ++ [.cmdRead] }

/-- The taking of a command is done: nothing in hand, head plus one, and the next record is fetched or the processor is
IDLE (R152). -/
def State.finishTaking (s : State) : State :=
  let s := s.setCmd { s.cmd with head := s.cmd.head + 1, inHand := none, reserved := false, state := .idle }
  if s.cmd.head = s.cmd.tail then s else s.presentCmdRead

/-- A command completes at its take (R152). -/
def State.complete (s : State) (c : Completion) : State := (s.formDone c).finishTaking

end Sys2Proof.Machine
end

