-- ==== Sys2Proof/Machine/Links.lean ====
section
/-! DEFINITION. The Link Framers: the three link commands, the sync events and frame boundaries, the slot events, the bit
clocks, and the notices that a broken frame hands to the staging FIFOs (spec/01). -/

namespace Sys2Proof.Machine

/-! ## Names in a bank (R21, R38) -/

def Half.names (h : Option Half) (c : ChanId) : Bool :=
  match h with
  | some x => x.chan == c
  | none => false

/-- The channel is named in the bank: a present half in either direction at any slot carries its number (R21). -/
def Bank.names (b : Bank) (c : ChanId) : Bool :=
  (List.finRange 128).any fun i => Half.names b[i.val].rx c || Half.names b[i.val].tx c

/-! ## Notices and swaps (R15, R16, R37) -/

/-- A notice goes to every channel mapped on the link by the bank (R16, R69, R70). -/
def State.notify (s : State) (b : Bank) (f : Channel → Channel) : State :=
  (List.finRange 64).foldl
    (fun s c => if b.names c && (s.chan c).state != .closed then s.update c (f (s.chan c), []) else s) s

/-- The performance causes of a swap (R37). -/
inductive SwapCause where
  | take
  | frameStart
  | loss
  | stop
  deriving DecidableEq, Repr

def SwapCause.code : SwapCause → U32
  | .take => 1
  | .frameStart => 2
  | .loss => 3
  | .stop => 4

/-- The banks exchange roles, the flag is cleared and the COMMAND_DONE is formed with the frame counter as it stands
(R37). The pending tag becomes none, its reset value (DESIGN CHOICE, assumption log 31). -/
def State.swapBanks (s : State) (l : LinkId) (cause : SwapCause) (tag : U32) : State :=
  let m := s.map l
  (s.setMap l { active := m.standby, standby := m.active, swapPending := false, swapTag := none }).formDone
    { commandDone .swapSlotMap tag .ok (BitVec.ofNat 8 l.val) (s.link l).frame with v0 := cause.code }

/-- A swap pending on the link is performed (R15). Its completion takes up a reservation, so that a command that waits for one
may be granted it (R111, R149). -/
def State.performPending (s : State) (l : LinkId) (cause : SwapCause) : State :=
  if (s.map l).swapPending then (s.swapBanks l cause ((s.map l).swapTag.getD 0)).grantWaiting else s

/-! ## Link state changes -/

/-- A frame starts: counter plus one, bit position 0, no slot event raised yet (R12). -/
def Link.startFrame (l : Link) (missed : Nat) : Link :=
  { l with state := .locked, frame := l.frame + 1, bitPos := some 0, launched := 0, completed := 0, missed := missed }

/-- A link event forms or merges into the record (R17, R18). -/
def Link.note (l : Link) (k : LinkEventKind) : Link :=
  { l with event := some (LinkEvent.note l.event k l.state l.frame) }

/-- The link enters OFF: TXD undriven, missed-sync count 0, the record's link state OFF (R5, R18, R19). -/
def Link.stopped (l : Link) : Link :=
  { l with state := .off, missed := 0, bitPos := none, txd := none,
           event := l.event.map fun e => { e with linkState := .off } }

def Link.role (l : Link) : Option SyncRole := l.config.map LinkConfig.role

/-- A device fault or the RESET action forces the link OFF; a LOCKED link hands its link-down notice (R19). -/
def State.forceOff (s : State) (l : LinkId) : State :=
  match (s.link l).state with
  | .off => s
  | .hunting => s.setLink l (s.link l).stopped
  | .locked => (s.setLink l (s.link l).stopped).notify (s.map l).active Channel.linkDown

def State.forceAllOff (s : State) : State := (List.finRange 8).foldl State.forceOff s

/-! ## Link commands (R2 to R5) -/

/-- The COMMAND_DONE of a link command: the frame stamp is the link's frame counter as it stands (R2). -/
def State.linkDone (s : State) (k : CmdKind) (r : List Byte) (st : Status) (l : LinkId) : Completion :=
  commandDone k (cmdTag r) st (byteAt r 16) (s.link l).frame

/-- The COMMAND_DONE for a link number outside 0 to 7: the number as read, frame stamp 0 (R155). -/
def noLinkDone (k : CmdKind) (r : List Byte) : Completion := commandDone k (cmdTag r) .badParam (byteAt r 16) 0

/-- CONFIGURE_LINK at its owner, in the order of R3. -/
def State.configureLink (r : List Byte) (s : State) : State :=
  match linkOf (byteAt r 16) with
  | none => s.complete (noLinkDone .configureLink r)
  | some l =>
    if (s.link l).state ≠ .off then s.complete (s.linkDone .configureLink r .linkActive l)
    else
      match linkConfigOf r with
      | none => s.complete (s.linkDone .configureLink r .badParam l)
      | some cfg =>
        if reservedZero .configureLink r then
          ((s.setLink l { s.link l with config := some cfg }).setMap l
              { s.map l with active := Bank.unassigned, standby := Bank.unassigned }).complete
            (s.linkDone .configureLink r .ok l)
        else s.complete (s.linkDone .configureLink r .badParam l)

/-- The link as START_LINK leaves it (R4): role IN hunts, role OUT is LOCKED in frame 1 with a LOCKED event. -/
def Link.started (l : Link) (role : SyncRole) : Link :=
  let l := { l with frame := 0, missed := 0, event := none }
  match role with
  | .roleIn => { l with state := .hunting }
  | .roleOut => (l.startFrame 0).note .locked

/-- START_LINK at its owner, in the order of R4. -/
def State.startLink (r : List Byte) (s : State) : State :=
  match linkOf (byteAt r 16) with
  | none => s.complete (noLinkDone .startLink r)
  | some l =>
    if reservedZero .startLink r then
      if (s.link l).state ≠ .off then s.complete (s.linkDone .startLink r .linkActive l)
      else
        match (s.link l).role with
        | none => s.complete (s.linkDone .startLink r .notConfigured l)
        | some role =>
          let s' := s.setLink l ((s.link l).started role)
          s'.complete (s'.linkDone .startLink r .ok l)
    else s.complete (s.linkDone .startLink r .badParam l)

/-- A LOCKED link leaves LOCKED by a stop: a pending swap is performed, then the link-down notice goes to the channels of
the bank that was active until then (R5, R15, R16). -/
def State.stopLocked (s : State) (l : LinkId) : State :=
  ((s.performPending l .stop).setLink l (s.link l).stopped).notify (s.map l).active Channel.linkDown

/-- STOP_LINK at its owner, in the order of R5. -/
def State.stopLink (r : List Byte) (s : State) : State :=
  match linkOf (byteAt r 16) with
  | none => s.complete (noLinkDone .stopLink r)
  | some l =>
    if reservedZero .stopLink r then
      match (s.link l).state with
      | .off => s.complete (s.linkDone .stopLink r .linkOff l)
      | .hunting => (s.setLink l (s.link l).stopped).complete (s.linkDone .stopLink r .ok l)
      | .locked => (s.stopLocked l).complete (s.linkDone .stopLink r .ok l)
    else s.complete (s.linkDone .stopLink r .badParam l)

/-- CONFIGURE_LINK (R3). -/
def execConfigureLink (s : State) : Result := .next (s.take .configureLink State.configureLink)

/-- START_LINK (R4). -/
def execStartLink (s : State) : Result := .next (s.take .startLink State.startLink)

/-- STOP_LINK (R5). -/
def execStopLink (s : State) : Result := .next (s.take .stopLink State.stopLink)

/-! ## Sync events and frame boundaries (R7 to R11) -/

/-- The link is LOCKED with the role. -/
def Link.lockedAs (l : Link) (role : SyncRole) : Bool := l.state == .locked && l.role == some role

/-- The frame length L in bit clocks (R1, note 2). -/
def LinkConfig.frameLength (c : LinkConfig) : Nat := c.slots * c.width

/-- The bit position stands at L - 1: the next bit clock is the frame boundary (R6). -/
def Link.atLastBit (l : Link) : Bool :=
  match l.config with
  | some c => l.bitPos == some (c.frameLength - 1)
  | none => false

/-- The frame can end at its boundary: the bit position stands at L - 1, and the receive-slot-complete of the last slot, which
falls at the boundary, has been raised (R6, R13). -/
def Link.atBoundary (l : Link) : Bool := l.atLastBit && (l.config.map LinkConfig.slots == some l.completed)

/-- A frame boundary of a LOCKED link with the role (R6). A boundary event offered in mid-frame has no effect (DESIGN CHOICE,
assumption log 2). -/
def Link.boundaryAs (l : Link) (role : SyncRole) : Bool := l.lockedAs role && l.atBoundary

/-- A sync pulse can fall off the boundary: the launch of slot 0, which falls at the bit clock of the frame start, has been raised
(R13), and the bit position is not L - 1 (R6, R11). A SLIP offered elsewhere has no effect (DESIGN CHOICE, assumption log 2). -/
def Link.offBoundary (l : Link) : Bool := decide (0 < l.launched) && !l.atLastBit

/-- The frame that a sync pulse starts: FSY was sampled high at its bit clock (R6, R8, R9, R11). -/
def Link.pulseFrame (l : Link) : Link := { l.startFrame 0 with fsyLow := false }

/-- The next frame starts at a boundary, the link being `next` from there, and performs any pending swap (R7, R9, R10, R15). -/
def State.nextFrame (s : State) (l : LinkId) (next : Link) : State := (s.setLink l next).performPending l .frameStart

/-- A sync pulse locks a HUNTING role IN link (R8). -/
def State.lockLink (l : LinkId) (s : State) : State :=
  if (s.link l).state = .hunting ∧ (s.link l).role = some .roleIn then s.setLink l ((s.link l).pulseFrame.note .locked)
  else s

/-- A sync pulse at the frame boundary of a LOCKED role IN link (R9). -/
def State.syncOnTime (l : LinkId) (s : State) : State :=
  if (s.link l).boundaryAs .roleIn then s.nextFrame l (s.link l).pulseFrame else s

/-- A frame boundary without a sync pulse that brings the missed-sync count to 1 (R10). -/
def State.freewheel (l : LinkId) (s : State) : State :=
  if (s.link l).boundaryAs .roleIn ∧ (s.link l).missed + 1 < missedSyncLimit then
    s.nextFrame l ((s.link l).startFrame ((s.link l).missed + 1))
  else s

/-- The link after a loss: HUNTING, no frame starts, a LOST event with the unchanged counter (R10, R17). -/
def Link.afterLoss (l : Link) : Link :=
  ({ l with state := .hunting, missed := missedSyncLimit, bitPos := none, txd := none } : Link).note .lost

/-- A frame boundary without a sync pulse that brings the missed-sync count to 2 (R10, R15, R16). -/
def State.linkLoss (l : LinkId) (s : State) : State :=
  if (s.link l).boundaryAs .roleIn ∧ (s.link l).missed + 1 = missedSyncLimit then
    ((s.setLink l (s.link l).afterLoss).performPending l .loss).notify (s.map l).active Channel.linkDown
  else s

/-- A sync pulse off the boundary of a LOCKED role IN link cuts the frame short and starts a new one (R11). The
cut-short notice goes first, to the channels of the bank in use (R16). TXD is undriven until slot
0 launches (DEDUCED, assumption log 22). -/
def State.slip (l : LinkId) (s : State) : State :=
  if (s.link l).lockedAs .roleIn ∧ (s.link l).offBoundary then
    ((s.notify (s.map l).active Channel.cutShort).setLink l
      { (s.link l).pulseFrame.note .slip with txd := none }).performPending l .frameStart
  else s

/-- The boundary of a LOCKED role OUT link (R7). -/
def State.frameBoundaryOut (l : LinkId) (s : State) : State :=
  if (s.link l).boundaryAs .roleOut then s.nextFrame l ((s.link l).startFrame 0) else s

/-- SYNC_PULSE_LOCK (R8). -/
def execSyncPulseLock (l : LinkId) (s : State) : Result := .next (s.lockLink l)

/-- SYNC_ON_TIME (R9). -/
def execSyncOnTime (l : LinkId) (s : State) : Result := .next (s.syncOnTime l)

/-- FREEWHEEL (R10). -/
def execFreewheel (l : LinkId) (s : State) : Result := .next (s.freewheel l)

/-- LINK_LOSS (R10). -/
def execLinkLoss (l : LinkId) (s : State) : Result := .next (s.linkLoss l)

/-- SLIP (R11). -/
def execSlip (l : LinkId) (s : State) : Result := .next (s.slip l)

/-- FRAME_BOUNDARY_OUT (R7). -/
def execFrameBoundaryOut (l : LinkId) (s : State) : Result := .next (s.frameBoundaryOut l)

/-! ## Slot events (R13, R14, R22) -/

/-- What an unassigned transmit slot puts on TXD (R14). -/
def LinkConfig.idleWord (c : LinkConfig) : Option U16 :=
  match c.idleMode with
  | .drive => some (slotWord c.width c.idleValue)
  | .release => none

/-- The half names an open channel of its direction: the event is passed to it (R22). -/
def State.assigned (s : State) (h : Option Half) (d : Direction) : Option Half :=
  match h with
  | some x => if (s.chan x.chan).isOpen ∧ (s.chan x.chan).cfg.dir = d then some x else none
  | none => none

/-- The transmit-slot-launch of this slot is the next of the frame: each slot is launched once and in slot order, and the
receive-slot-complete of the slot before the last launched one has been raised (R13). -/
def Link.mayLaunch (l : Link) (slot : Nat) : Bool := l.launched == slot && decide (slot ≤ l.completed + 1)

/-- The receive-slot-complete of this slot is the next of the frame, and the slot has been launched (R13). -/
def Link.mayComplete (l : Link) (slot : Nat) : Bool := l.completed == slot && decide (slot < l.launched)

/-- A transmit-slot-launch of a LOCKED link (R13, R14, R22, R67, R68). The bit position is that of the slot's first bit
(DESIGN CHOICE, assumption log 6). -/
def State.transmitSlot (s : State) (l : LinkId) (slot : SlotId) (cfg : LinkConfig) : State :=
  let link := { s.link l with bitPos := some (slot.val * cfg.width), launched := slot.val + 1 }
  match s.assigned (s.map l).active[slot.val].tx .tx with
  | some h =>
    let r := (s.chan h.chan).transmit h.lane.val link.frame
    (s.setLink l { link with txd := some r.2 }).update h.chan (r.1, [])
  | none => s.setLink l { link with txd := cfg.idleWord }

/-- A receive-slot-complete of a LOCKED link (R13, R22, R64, R65). The bit position is that of the slot's last bit, but where the
next slot's launch, which falls at the same point, came first (DESIGN CHOICE, assumption log 6). -/
def State.receiveSlot (s : State) (l : LinkId) (slot : SlotId) (cfg : LinkConfig) (sample : U16) : State :=
  let link := { s.link l with
    bitPos := if (s.link l).launched = slot.val + 1 then some (slot.val * cfg.width + cfg.width - 1) else (s.link l).bitPos
    completed := slot.val + 1 }
  match s.assigned (s.map l).active[slot.val].rx .rx with
  | some h =>
    (s.setLink l link).update h.chan
      ((s.chan h.chan).receive h.lane.val link.frame (slotWord cfg.width sample), [])
  | none => s.setLink l link

/-- The configuration of a LOCKED link that has the slot, when its event is due (R13). A slot event out of order, repeated, or of a
slot abandoned by a slip or of a past frame has no effect (DESIGN CHOICE, assumption log 2). -/
def State.lockedSlot (s : State) (l : LinkId) (slot : SlotId) (due : Bool) : Option LinkConfig :=
  if (s.link l).state = .locked ∧ due then
    (s.link l).config.filter fun c => decide (slot.val < c.slots)
  else none

/-- TRANSMIT_SLOT_LAUNCH (R67). -/
def execTransmitSlotLaunch (l : LinkId) (slot : SlotId) (s : State) : Result :=
  .next (match s.lockedSlot l slot ((s.link l).mayLaunch slot.val) with
    | some cfg => s.transmitSlot l slot cfg
    | none => s)

/-- RECEIVE_SLOT_COMPLETE (R64). -/
def execReceiveSlotComplete (l : LinkId) (slot : SlotId) (sample : U16) (s : State) : Result :=
  .next (match s.lockedSlot l slot ((s.link l).mayComplete slot.val) with
    | some cfg => s.receiveSlot l slot cfg sample
    | none => s)

/-- The channel has a launch group whose last lane has been sent (R68). -/
def Channel.departureDue (ch : Channel) : Bool :=
  match ch.launchGroup with
  | some g => g.nextLane == ch.cfg.lanes
  | none => false

/-- A departure that is due is made (R68). -/
def State.departGroup (c : ChanId) (s : State) : State :=
  if (s.chan c).departureDue then s.update c ((s.chan c).depart, []) else s

/-- GROUP_DEPARTURE (R68), of the channel it names (DESIGN CHOICE, assumption log 18). -/
def execGroupDeparture (c : ChanId) (s : State) : Result := .next (s.departGroup c)

/-! ## Bit clocks (R6) -/

/-- The configuration and the bit position of a LOCKED link (R1, R6). -/
def Link.place (l : Link) : Option (LinkConfig × Nat) :=
  match l.state, l.config, l.bitPos with
  | .locked, some cfg, some p => some (cfg, p)
  | _, _, _ => none

/-- The framer samples FSY and RXD; it does not sample the FSY of a role OUT link (R6, R7). -/
def Link.sampled (l : Link) (b : BitClock) : Link :=
  { l with
    fsyLow := !b.fsy && l.role != some .roleOut
    rxBits := (l.rxBits <<< 1) ||| (BitVec.ofBool b.rxd).setWidth 16 }

/-- The slot ends: its sample, the bits of RXD since its start, is complete, and where it is the slot of the last lane of a
channel, the launch group that has sent that lane departs (R13, R68). -/
def State.endSlot (s : State) (l : LinkId) (slot : SlotId) (cfg : LinkConfig) : State :=
  let t := if (s.link l).completed ≤ slot.val then s.receiveSlot l slot cfg (s.link l).rxBits else s
  match (s.map l).active[slot.val].tx with
  | some h => if h.lane.val + 1 = (s.chan h.chan).cfg.lanes then t.departGroup h.chan else t
  | none => t

/-- The slot events that are due where a LOCKED link stands and have not been raised: the end of the slot before, and the launch
of the slot (R13). -/
def State.raiseDue (l : LinkId) (s : State) : State :=
  match (s.link l).place with
  | some (cfg, p) =>
    let t := if (s.link l).completed < p / cfg.width then s.endSlot l (Fin.ofNat 128 (s.link l).completed) cfg else s
    if (t.link l).launched ≤ p / cfg.width then t.transmitSlot l (Fin.ofNat 128 (p / cfg.width)) cfg else t
  | none => s

/-- The slot that ends with the bit position where a LOCKED link stands, if one does, ends (R13). -/
def State.endSlotHere (l : LinkId) (s : State) : State :=
  match (s.link l).place with
  | some (cfg, p) => if (p + 1) % cfg.width = 0 then s.endSlot l (Fin.ofNat 128 (p / cfg.width)) cfg else s
  | none => s

/-- The bit position of a LOCKED link advances by one; the bit clock after position L - 1 is the frame boundary, and a sync pulse
anywhere else is a slip (R6, R7, R9 to R11). -/
def State.advance (l : LinkId) (pulse : Bool) (s : State) : State :=
  match (s.link l).place with
  | some (cfg, p) =>
    if p + 1 = cfg.frameLength then
      match cfg.role with
      | .roleOut => s.frameBoundaryOut l
      | .roleIn =>
        if pulse then s.syncOnTime l
        else if (s.link l).missed + 1 < missedSyncLimit then s.freewheel l
        else s.linkLoss l
    else if pulse ∧ cfg.role = .roleIn then s.slip l
    else s.setLink l { s.link l with bitPos := some (p + 1) }
  | none => s

/-- A bit clock of a link (R6): the slot that it ends, the samples of FSY and RXD, what the link state and a sync pulse make of
it (R7 to R11), and the launch of the slot that it begins (R13). A sync pulse is FSY sampled high after low. While RESETn is low
no framer samples (R168). A frame that a row or START_LINK has started stands at bit position 0, and the next bit clock of the link
moves it to position 1: for frame 1 of a role OUT link, which starts at START_LINK, no rule says which BCK is that of position 0
(R4, R6, R13; DESIGN CHOICE, assumption log 34). The slot events that the link's rows raised ahead of the bit clock are not raised again (DESIGN CHOICE,
assumption log 6), and a slip at the first bit of a slot finds the slot before it ended (DEDUCED, assumption log 33). -/
def State.bitClock (b : BitClock) (s : State) : State :=
  if s.device.resetLow then s
  else
    let l := b.link
    let pulse := b.fsy && (s.link l).fsyLow
    let t := (s.raiseDue l).endSlotHere l
    let u := t.setLink l ((t.link l).sampled b)
    let v := match (u.link l).state with
      | .off => u
      | .hunting => if pulse then u.lockLink l else u
      | .locked => u.advance l pulse
    v.raiseDue l

end Sys2Proof.Machine
end

