-- ==== Sys2Proof/Machine/SlotMaps.lean ====
section
/-! DEFINITION. The Slot Map Store: the four map commands, the list transfers, the validation of a swap and the question
whether a channel is named (spec/02). -/

namespace Sys2Proof.Machine

/-! ## The shared checks (R23) -/

/-- The status that refuses a map command on a link, if any: reserved fields, own parameters, then a pending swap (R23). -/
def State.mapRefusal (s : State) (k : CmdKind) (r : List Byte) (own : Bool) (l : LinkId) : Option Status :=
  if !(reservedZero k r) || !own then some .badParam
  else if (s.map l).swapPending then some .busy
  else none

/-- A map command at its owner: refused by R23, or carried out on its link. -/
def State.mapCommand (k : CmdKind) (own : Bool) (act : LinkId → State → State) (r : List Byte) (s : State) : State :=
  match linkOf (byteAt r 16) with
  | none => s.complete (noLinkDone k r)
  | some l =>
    match s.mapRefusal k r own l with
    | some st => s.complete (s.linkDone k r st l)
    | none => act l s

/-! ## List transfers (R24, R25, R29, R30) -/

/-- The pieces of a range, cut at every 64-byte address boundary: offset and length of each, in ascending order, at most
`fuel` of them (R25). -/
def cutPieces : (fuel base offset left : Nat) → List (Nat × Nat)
  | 0, _, _, _ => []
  | fuel + 1, base, offset, left =>
    if left = 0 then []
    else
      let k := min left (64 - (base + offset) % 64)
      (offset, k) :: cutPieces fuel base (offset + k) (left - k)

/-- The pieces of a transfer: at most 9, for no list is longer than 512 bytes (R25). -/
def piecesOf (base length : Nat) : List (Nat × Nat) := cutPieces 9 base 0 length

/-- A list transfer begins: the window takes a reference, and every piece is asked for in ascending order (R24, R25, R29,
R30, R138). The Command Processor stays in TAKING (R152). -/
def State.beginTransfer (s : State) (w : WinId) (t : ListTransfer) : State :=
  let s := (s.claim w).setTransfer (some t)
  s.setPort { s.port with wait4 := s.port.wait4 ++ (List.range t.pieces.length).map Class4.listPiece }

/-- A transfer of `length` bytes at `base` that has issued nothing. -/
def transferOf (l : LinkId) (dir : ListDir) (w : WinId) (tag : U32) (base : U64) (length : Nat) (copy : List Byte) :
    ListTransfer :=
  { link := l, dir := dir, window := w, tag := tag, base := base, pieces := piecesOf base.toNat length, issued := 0,
    answered := 0, held := [], copy := copy, error := false, stopped := false }

/-- WRITE_SLOT_MAP's own parameters (R24). -/
def writeMapParams (r : List Byte) : Bool :=
  decide (1 ≤ (u16At r 18).toNat) && decide ((u16At r 18).toNat ≤ 128) && (u64At r 24).toNat % 4 == 0

/-- WRITE_SLOT_MAP at its owner (R24, R25). -/
def State.writeSlotMap (r : List Byte) (s : State) : State :=
  State.mapCommand .writeSlotMap (writeMapParams r) (fun l s =>
    let length := (u16At r 18).toNat * 4
    match s.findWindow (u64At r 24).toNat length .read with
    | none => s.complete (s.linkDone .writeSlotMap r .windowFault l)
    | some w => s.beginTransfer w (transferOf l .readList w (cmdTag r) (u64At r 24) length [])) r s

/-- COPY_SLOT_MAP at its owner (R28). -/
def State.copySlotMap (r : List Byte) (s : State) : State :=
  State.mapCommand .copySlotMap true (fun l s =>
    (s.setMap l { s.map l with standby := (s.map l).active }).complete (s.linkDone .copySlotMap r .ok l)) r s

/-- A bank as READ_SLOT_MAP writes it: 128 list entries in slot order (R29). -/
def Bank.bytes (b : Bank) : List Byte := (List.finRange 128).flatMap fun i => bytes32 (listWord i b[i.val])

/-- READ_SLOT_MAP's own parameters (R29). -/
def readMapParams (r : List Byte) : Bool := (bankSelectOf (byteAt r 17)).isSome && (u64At r 24).toNat % 4 == 0

/-- The bank that READ_SLOT_MAP selects by its role (R29). -/
def SlotMap.select (m : SlotMap) (role : Option Bool) : Bank := if role = some true then m.active else m.standby

/-- READ_SLOT_MAP at its owner (R29, R30). -/
def State.readSlotMap (r : List Byte) (s : State) : State :=
  State.mapCommand .readSlotMap (readMapParams r) (fun l s =>
    match s.findWindow (u64At r 24).toNat 512 .write with
    | none => s.complete (s.linkDone .readSlotMap r .windowFault l)
    | some w =>
      s.beginTransfer w (transferOf l .writeCopy w (cmdTag r) (u64At r 24) 512
        ((s.map l).select (bankSelectOf (byteAt r 17))).bytes)) r s

/-! ## Applying a list (R26) -/

/-- The position of the first entry that fails the checks of R26. -/
def firstBad (words : List U32) : Option Nat := words.findIdx? fun w => (listEntryOf w).isNone

/-- Each entry is written at its slot, in list order (R26). -/
def Bank.apply (b : Bank) (words : List U32) : Bank :=
  words.foldl (fun b w =>
    match listEntryOf w with
    | some (slot, e) => b.set slot.val e
    | none => b) b

/-- The words of a list. -/
def wordsOf (bs : List Byte) : List U32 := (List.range (bs.length / 4)).map fun i => u32At bs (i * 4)

/-- The list in hand: the pieces that have arrived, in ascending address order (R25). -/
def ListTransfer.list (t : ListTransfer) : List Byte :=
  (List.range t.pieces.length).flatMap fun i => ((t.held.find? fun p => p.1 == i).map Prod.snd).getD []

/-! ## The end of a transfer (R25 to R27, R30, R139) -/

/-- Every piece asked for has been answered, and no further piece is asked for. -/
def ListTransfer.over (t : ListTransfer) : Bool :=
  t.answered == t.issued && (t.issued == t.pieces.length || t.error || t.stopped)

/-- The COMMAND_DONE of a transfer: the frame stamp is the link's frame counter at its formation (R23). -/
def State.transferDone (s : State) (t : ListTransfer) (st : Status) : Completion :=
  commandDone (match t.dir with
    | .readList => .writeSlotMap
    | .writeCopy => .readSlotMap) t.tag st (BitVec.ofNat 8 t.link.val) (s.link t.link).frame

/-- What the end of a transfer does to the bank and reports (R25, R26, R30). -/
def State.transferEffect (s : State) (t : ListTransfer) : State :=
  if t.error then s.complete (s.transferDone t .busError)
  else
    match t.dir with
    | .writeCopy => s.complete (s.transferDone t .ok)
    | .readList =>
      match firstBad (wordsOf t.list) with
      | some n => s.complete { s.transferDone t .badParam with v0 := BitVec.ofNat 32 n, v1 := 1 }
      | none =>
        (s.setMap t.link { s.map t.link with standby := (s.map t.link).standby.apply (wordsOf t.list) }).complete
          (s.transferDone t .ok)

/-- The transfer ends: the window's reference is released first; a transfer stopped by a device fault has no further
effect (R25, R27, R30). -/
def State.endTransfer (s : State) (t : ListTransfer) : State :=
  let s := (s.letGo t.window).setTransfer none
  if t.stopped then s else s.transferEffect t

/-- The pieces not yet granted are withdrawn (R25, R125). -/
def Port.withdrawPieces (p : Port) : Port :=
  { p with wait4 := p.wait4.filter fun r =>
      match r with
      | .listPiece _ => false
      | .cmdRead => true
      | .configRead => true }

/-- One more piece has answered: a read piece is held, an ERROR stops the asking (R25, R30). -/
def ListTransfer.answer (t : ListTransfer) (number : Nat) (result : ReadResult) : ListTransfer :=
  match result with
  | .okay bytes =>
    { t with answered := t.answered + 1,
             held := match t.dir with
               | .readList => t.held ++ [(number, bytes)]
               | .writeCopy => t.held }
  | .error => { t with answered := t.answered + 1, error := true }

/-- The response to a piece of the transfer in progress (R25, R30). -/
def State.pieceResponse (s : State) (number : Nat) (result : ReadResult) : State :=
  match s.transfer with
  | none => s
  | some t =>
    let t := t.answer number result
    let s := (s.setTransfer (some t)).setPort (if t.error then s.port.withdrawPieces else s.port)
    if t.over then s.endTransfer t else s

/-- A device fault stops the asking. The window's reference goes at the last response of the issued pieces; with none to come it
is held to the reset (R27, R30, R144, DEDUCED, assumption log 14). -/
def State.stopTransfer (s : State) : State := s.setTransfer (s.transfer.map fun t => { t with stopped := true })

/-! ## Named channels (R38) -/

/-- The channel is named in the active bank of the link, or in its standby bank while a swap is pending. -/
def SlotMap.holds (m : SlotMap) (c : ChanId) : Bool := m.active.names c || (m.swapPending && m.standby.names c)

/-- The channel is named (R38). -/
def State.named (s : State) (c : ChanId) : Bool := (List.finRange 8).any fun l => (s.map l).holds c

/-- The channel is named on a link other than this one (R32, check 6). -/
def State.namedElsewhere (s : State) (l : LinkId) (c : ChanId) : Bool :=
  (List.finRange 8).any fun k => k != l && (s.map k).holds c

/-! ## Validation (R32 to R34) -/

/-- The reasons of R32, in its order. -/
inductive MapReason where
  | slotRange
  | channelNotOpen
  | direction
  | width
  | lanes
  | otherLink
  deriving DecidableEq, Repr

def MapReason.code : MapReason → Nat
  | .slotRange => 1
  | .channelNotOpen => 2
  | .direction => 3
  | .width => 4
  | .lanes => 5
  | .otherLink => 6

/-- The half of an entry in a direction. -/
def MapEntry.half (e : MapEntry) (d : Direction) : Option Half :=
  match d with
  | .rx => e.rx
  | .tx => e.tx

/-- The halves that name a channel in a direction, in ascending slot order (R33). -/
def Bank.lanesOf (b : Bank) (d : Direction) (c : ChanId) : List (SlotId × Fin 8) :=
  (List.finRange 128).filterMap fun i =>
    match b[i.val].half d with
    | some h => if h.chan = c then some (i, h.lane) else none
    | none => none

/-- The slot at which a lane sequence fails, the next lane expected being `k` of `n` (R33). -/
def laneFault (n : Nat) : Nat → List (SlotId × Fin 8) → Option SlotId
  | _, [] => none
  | k, (i, lane) :: rest =>
    if lane.val ≠ k ∨ n ≤ k then some i
    else if rest.isEmpty ∧ k + 1 < n then some i
    else laneFault n (k + 1) rest

/-- The first check of R32 that a present half fails. -/
def State.halfFault (s : State) (l : LinkId) (cfg : LinkConfig) (slot : SlotId) (d : Direction) (h : Half) :
    Option MapReason :=
  let ch := s.chan h.chan
  if cfg.slots ≤ slot.val then some .slotRange
  else if !ch.isOpen then some .channelNotOpen
  else if ch.cfg.dir ≠ d then some .direction
  else if ch.cfg.width ≠ cfg.width then some .width
  else if laneFault ch.cfg.lanes 0 ((s.map l).standby.lanesOf d h.chan) = some slot then some .lanes
  else if s.namedElsewhere l h.chan then some .otherLink
  else none

/-- A failure that SWAP_SLOT_MAP reports (R34). -/
structure MapFailure where
  slot : SlotId
  reason : MapReason
  dir : Direction
  chan : ChanId
  deriving DecidableEq, Repr

/-- The failure of one half of an entry of the standby bank. -/
def State.halfFailure (s : State) (l : LinkId) (cfg : LinkConfig) (slot : SlotId) (d : Direction) : Option MapFailure :=
  match (s.map l).standby[slot.val].half d with
  | none => none
  | some h => (s.halfFault l cfg slot d h).map fun why => { slot := slot, reason := why, dir := d, chan := h.chan }

/-- The failure of a slot: the earlier reason, the receive half first for the same reason (R34). -/
def State.slotFailure (s : State) (l : LinkId) (cfg : LinkConfig) (slot : SlotId) : Option MapFailure :=
  match s.halfFailure l cfg slot .rx, s.halfFailure l cfg slot .tx with
  | some a, some b => if b.reason.code < a.reason.code then some b else some a
  | some a, none => some a
  | none, b => b

/-- The failure of the lowest slot that fails; none for a valid bank (R32, R34). -/
def State.mapFailure (s : State) (l : LinkId) (cfg : LinkConfig) : Option MapFailure :=
  (List.finRange 128).findSome? (s.slotFailure l cfg)

/-- The half field of a MAP_INVALID (spec/11). -/
def Direction.halfCode : Direction → U32
  | .rx => 0
  | .tx => 1

/-- SWAP_SLOT_MAP at its owner (R31, R34 to R36). -/
def State.swapSlotMap (r : List Byte) (s : State) : State :=
  State.mapCommand .swapSlotMap true (fun l s =>
    match (s.link l).config with
    | none => s.complete (s.linkDone .swapSlotMap r .notConfigured l)
    | some cfg =>
      match s.mapFailure l cfg with
      | some f =>
        s.complete { s.linkDone .swapSlotMap r .mapInvalid l with
          v0 := BitVec.ofNat 32 f.slot.val, v1 := BitVec.ofNat 32 f.reason.code, v2 := f.dir.halfCode,
          v3 := BitVec.ofNat 32 f.chan.val }
      | none =>
        if (s.link l).state = .locked then
          (s.setMap l { s.map l with swapPending := true, swapTag := some (cmdTag r) }).finishTaking
        else (s.swapBanks l .take (cmdTag r)).finishTaking) r s

/-- WRITE_SLOT_MAP (R24). -/
def execWriteSlotMap (s : State) : Result := .next (s.take .writeSlotMap State.writeSlotMap)

/-- COPY_SLOT_MAP (R28). -/
def execCopySlotMap (s : State) : Result := .next (s.take .copySlotMap State.copySlotMap)

/-- READ_SLOT_MAP (R29). -/
def execReadSlotMap (s : State) : Result := .next (s.take .readSlotMap State.readSlotMap)

/-- SWAP_SLOT_MAP (R31). -/
def execSwapSlotMap (s : State) : Result := .next (s.take .swapSlotMap State.swapSlotMap)

end Sys2Proof.Machine
end

