-- ==== Sys2Proof/Machine/Admission.lean ====
section
/-! DEFINITION. The Completion Writer's arbiter and the events of the Interrupt Coalescer (R111, R112, R117). -/

namespace Sys2Proof.Machine

/-! ## The arbiter (R111, R112) -/

/-- A candidate for admission, in the order of R111. -/
inductive Candidate where
  | linkEvent (l : LinkId) (e : LinkEvent)
  | deviceEvent (e : DeviceEvent)
  | reservation
  | channel (c : ChanId) (x : Completion)
  deriving DecidableEq, Repr

/-- The lowest link that holds an event record. -/
def State.linkCandidate (s : State) : Option Candidate :=
  (List.finRange 8).findSome? fun l => (s.link l).event.map (Candidate.linkEvent l)

/-- The request for a reservation, while fewer than 24 are held (R110). -/
def State.reservationCandidate (s : State) : Option Candidate :=
  if s.cmd.state = .waitSpace ∧ s.writer.reservations < reservationLimit then some .reservation else none

/-- The first channel after the pointer that offers a completion (R112). -/
def State.channelCandidate (s : State) : Option Candidate :=
  (roundRobin s.writer.pointer).findSome? fun c => (s.chan c).offers.map (Candidate.channel c)

/-- The candidate to be taken (R111). -/
def State.candidate (s : State) : Option Candidate :=
  match s.linkCandidate with
  | some x => some x
  | none =>
    match s.writer.devEvent with
    | some e => some (.deviceEvent e)
    | none =>
      match s.reservationCandidate with
      | some x => some x
      | none => s.channelCandidate

/-- The channel's list after the admission: the completion is delivered, and a pass-end decision that waits is made again
(R92, R94, R112). -/
def State.admitChannel (s : State) (c : ChanId) (x : Completion) : State :=
  let s := s.enterList x
  (s.setWriter { s.writer with pointer := c }).update c ((s.chan c).delivered.passEnd, [])

/-- The candidate is taken (R111). -/
def State.admitOne (s : State) (x : Candidate) : State :=
  match x with
  | .linkEvent l e => (s.setLink l { s.link l with event := none }).enterList (linkEventDone l e)
  | .deviceEvent e => (s.setWriter { s.writer with devEvent := none }).enterList (deviceEventDone e)
  | .reservation => s.grantReservation
  | .channel c x => s.admitChannel c x

/-- ADMISSION: while the device is RUNNING and a place is free, one candidate is taken (R111, DESIGN CHOICE,
assumption log 4). -/
def execAdmission (s : State) : Result :=
  .next (if s.running ∧ 0 < s.writer.free then
      match s.candidate with
      | some x => s.admitOne x
      | none => s
    else s)

/-! ## The coalescer's events (R117) -/

/-- COALESCING_COUNT_REACHED: the count of entries written has reached N. -/
def execCoalescingCountReached (s : State) : Result :=
  .next (if 0 < s.coal.counter ∧ s.coal.count ≤ s.coal.counter then s.fire else s)

/-- The next tick brings the elapsed time to a non-zero T. -/
def Coalescer.expires (c : Coalescer) : Bool :=
  match c.timer with
  | some e => c.time != 0 && e + 1 == c.time
  | none => false

/-- COALESCING_TIMER_EXPIRY: the tick at which the elapsed time reaches T. -/
def execCoalescingTimerExpiry (s : State) : Result :=
  .next (if s.coal.expires ∧ s.device.resetLow = false then s.fire else s)

/-- TIMEBASE_TICK: the timebase counts only while RESETn is high (R168, DEDUCED, assumption log 25). -/
def execTimebaseTick (s : State) : Result := .next (if s.device.resetLow then s else s.tick)

end Sys2Proof.Machine
end

