-- ==== Sys2Proof/Machine/Channels.lean ====
section
/-! DEFINITION. The Channel Table's commands, the producer index post and the end of a close (spec/03, R81, R82). -/

namespace Sys2Proof.Machine

/-- The COMMAND_DONE of a channel command: the channel number as read, frame stamp 0 (R44, R155). -/
def chanDone (k : CmdKind) (r : List Byte) (st : Status) : Completion := commandDone k (cmdTag r) st (byteAt r 16) 0

/-! ## OPEN_CHANNEL (R45, R46) -/

/-- The ring lies in the lowest window that grants READ (R46). -/
def State.ringWindowOf (s : State) (cfg : ChanConfig) : Option WinId :=
  s.findWindow cfg.ringBase.toNat (cfg.ringSize * 16) .read

/-- The context of a channel that has just been opened (R46). -/
def Channel.opened (cfg : ChanConfig) (w : WinId) : Channel :=
  { Channel.reset with state := .starved, config := some cfg, ringWindow := some w }

/-- OPEN_CHANNEL from its check 4 on, the channel being CLOSED (R45, R46). -/
def State.openClosed (r : List Byte) (c : ChanId) (s : State) : State :=
  match chanConfigOf r with
  | none => s.complete (chanDone .openChannel r .badParam)
  | some cfg =>
    if s.named c then s.complete (chanDone .openChannel r .stillMapped)
    else
      match s.ringWindowOf cfg with
      | none => s.complete (chanDone .openChannel r .windowFault)
      | some w =>
        ((s.claim w).setChan c (Channel.opened cfg w)).complete
          { chanDone .openChannel r .ok with v0 := BitVec.ofNat 32 w.val }

/-- OPEN_CHANNEL at its owner, in the order of R45. -/
def State.openChannel (r : List Byte) (s : State) : State :=
  match chanOf (byteAt r 16) with
  | none => s.complete (chanDone .openChannel r .badParam)
  | some c =>
    if reservedZero .openChannel r then
      match (s.chan c).state with
      | .closing => s.complete (chanDone .openChannel r .busy)
      | .starved | .active | .halted => s.complete (chanDone .openChannel r .alreadyOpen)
      | .closed => s.openClosed r c
    else s.complete (chanDone .openChannel r .badParam)

/-! ## CLOSE_CHANNEL (R48, R49) -/

/-- The status that refuses a close of a known channel, if any: checks 3 and 4 of R48. -/
def State.closeRefusal (s : State) (c : ChanId) (mode : CloseMode) : Option Status :=
  match (s.chan c).state with
  | .closed => some .notOpen
  | .closing => some .busy
  | .starved | .active | .halted => if mode = .graceful ∧ s.named c then some .mapped else none

/-- CLOSE_CHANNEL at its owner, in the order of R48. A close that is taken becomes pending (R49, R153). -/
def State.closeChannel (r : List Byte) (s : State) : State :=
  match chanOf (byteAt r 16) with
  | none => s.complete (chanDone .closeChannel r .badParam)
  | some c =>
    match closeModeOf (byteAt r 17) with
    | none => s.complete (chanDone .closeChannel r .badParam)
    | some mode =>
      if reservedZero .closeChannel r then
        match s.closeRefusal c mode with
        | some st => s.complete (chanDone .closeChannel r st)
        | none => (s.update c ((s.chan c).close mode (cmdTag r))).finishTaking
      else s.complete (chanDone .closeChannel r .badParam)

/-! ## RESUME_CHANNEL (R59) -/

/-- A HALTED channel is resumed. -/
def Channel.resumed (ch : Channel) : Channel := { ch with state := .starved, haltCause := none }

/-- RESUME_CHANNEL at its owner (R59). -/
def State.resumeChannel (r : List Byte) (s : State) : State :=
  match chanOf (byteAt r 16) with
  | none => s.complete (chanDone .resumeChannel r .badParam)
  | some c =>
    if reservedZero .resumeChannel r then
      if (s.chan c).state = .halted then
        (s.update c ((s.chan c).resumed, [])).complete
          { chanDone .resumeChannel r .ok with consumed := (s.chan c).consumed }
      else s.complete (chanDone .resumeChannel r .notHalted)
    else s.complete (chanDone .resumeChannel r .badParam)

/-! ## QUERY_CHANNEL (R60, R172) -/

def ChanState.code : ChanState → BitVec 3
  | .closed => 0
  | .starved => 1
  | .active => 2
  | .halted => 3
  | .closing => 4

def HaltCause.code : HaltCause → BitVec 2
  | .badDescriptor => 1
  | .windowFault => 2
  | .busError => 3

/-- The halt cause in force when the state is HALTED, else absent (R60). -/
def Channel.causeCode (ch : Channel) : BitVec 2 :=
  match ch.haltCause with
  | some why => if ch.state = .halted then why.code else 0
  | none => 0

def Direction.bit : Direction → BitVec 1
  | .rx => 0
  | .tx => 1

/-- The channel summary of QUERY_CHANNEL, in bytes 28 to 31 (spec/11). -/
def Channel.summary (ch : Channel) : U32 :=
  0#6 ++ BitVec.ofNat 2 ch.list.length ++ 0#2 ++ BitVec.ofNat 6 ch.groups.length ++ 0#4 ++ BitVec.ofNat 4 ch.cfg.lanes
    ++ 0#2 ++ ch.cfg.dir.bit ++ ch.causeCode ++ ch.state.code

/-- The report of QUERY_CHANNEL (R60). -/
def queryDone (r : List Byte) (ch : Channel) : Completion :=
  { chanDone .queryChannel r .ok with
    ring := ch.producer, consumed := ch.consumed, v0 := ch.moved, v1 := ch.lost, v2 := ch.discarded,
    v3 := ch.buffersDone, stamp := ch.summary }

/-- QUERY_CHANNEL at its owner (R60). -/
def State.queryChannel (r : List Byte) (s : State) : State :=
  match chanOf (byteAt r 16) with
  | none => s.complete (chanDone .queryChannel r .badParam)
  | some c =>
    if reservedZero .queryChannel r then
      if (s.chan c).state = .closed then s.complete (chanDone .queryChannel r .notOpen)
      else s.complete (queryDone r (s.chan c))
    else s.complete (chanDone .queryChannel r .badParam)

/-! ## Posting descriptors (R81, R82) -/

/-- Both distances of R81 are within the ring. -/
def Channel.postInRange (ch : Channel) (index : U16) : Bool :=
  decide (dist16 ch.consumed index ≤ ch.cfg.ringSize) && decide (dist16 ch.producer index ≤ ch.cfg.ringSize)

/-- An accepted post stores the producer index; a pass-end decision that waits is made again (R81, R94). While RESETTING
nothing but the index changes, and that is lost (R167, DEDUCED, assumption log 30). -/
def State.acceptPost (s : State) (c : ChanId) (index : U16) : State :=
  let ch := { s.chan c with producer := index }
  if s.device.state = .resetting then s.setChan c ch else s.update c (ch.passEnd, [])

/-- A write of CHAN_POST (R81, R82). -/
def State.postProducer (s : State) (c : ChanId) (index : U16) : State :=
  if !(s.chan c).isOpen then s.rejectPost .post (some c) (index.setWidth 32) .notOpen
  else if (s.chan c).postInRange index then s.acceptPost c index
  else s.rejectPost .post (some c) (index.setWidth 32) .range

/-! ## The commands -/

/-- OPEN_CHANNEL (R45). -/
def execOpenChannel (s : State) : Result := .next (s.take .openChannel State.openChannel)

/-- CLOSE_CHANNEL (R48). -/
def execCloseChannel (s : State) : Result := .next (s.take .closeChannel State.closeChannel)

/-- RESUME_CHANNEL (R59). -/
def execResumeChannel (s : State) : Result := .next (s.take .resumeChannel State.resumeChannel)

/-- QUERY_CHANNEL (R60). -/
def execQueryChannel (s : State) : Result := .next (s.take .queryChannel State.queryChannel)

/-- CLOSE_END (R54): the close of a channel with nothing left ends. -/
def execCloseEnd (c : ChanId) (s : State) : Result := .next (s.endClose c)

end Sys2Proof.Machine
end

