-- ==== Sys2Proof/Machine/Device.lean ====
section
/-! DEFINITION. Device Control: faults, the two resets, the configuration load, and the register window (spec/10), with the
posts of the command queue and the completion queue that arrive through it (R147, R108). -/

namespace Sys2Proof.Machine

/-! ## The Command Processor stops (R156, R157) -/

/-- STOPPED from whatever state: a record in hand in WAIT_SPACE is discarded, head and tail are kept (R156). -/
def CmdProc.stop (c : CmdProc) : CmdProc :=
  { c with state := .stopped, inHand := if c.state = .waitSpace then none else c.inHand }

/-! ## Device fault (R164, R165) -/

/-- A fault taken in LOADING or RUNNING; in every other state it changes nothing (R164). -/
def State.enterFault (s : State) (code : FaultCode) : State :=
  if s.device.state = .loading ∨ s.device.state = .running then
    (((((s.setDevice { s.device with state := .faulted, fault := code }).setCause
      { s.irqCause with fault := true }).setCmd s.cmd.stop).stopTransfer)).forceAllOff
  else s

/-! ## Resets (R166 to R168) -/

/-- Every block at its reset values; the configuration address is kept, and so are the pin, the commands that wait and
the bit clocks to come (R167, DESIGN CHOICE, assumption log 27), and the free bytes used (log 7). -/
def State.softReset (s : State) : State :=
  { State.reset with
    device := { Device.reset with configAddr := s.device.configAddr, resetLow := s.device.resetLow }
    freeBytes := s.freeBytes
    pending := s.pending
    clocks := s.clocks }

/-- The soft reset ends when no transaction is outstanding (R167, DESIGN CHOICE, assumption log 5). -/
def State.endReset (s : State) : State :=
  if s.device.state = .resetting ∧ s.port.drained then s.softReset else s

/-- The port withdraws every waiting request (R134). -/
def Port.withdrawAll (p : Port) : Port :=
  { p with wait0 := false, wait1 := Vector.replicate 64 false, wait2 := Vector.replicate 64 false,
           wait3 := Vector.replicate 64 false, wait4 := [] }

/-- The RESET action as it is taken (R166). The device is RESETTING first, so the link-down notices release nothing (R144). -/
def State.beginReset (s : State) : State :=
  let s := ((s.setDevice { s.device with state := .resetting }).setCmd s.cmd.stop).forceAllOff
  (s.setPort s.port.withdrawAll).setCoal { s.coal with timer := none }

/-- The RESET action of CTRL: ignored in RESETTING; with nothing outstanding the reset ends at once (R160, R167). -/
def State.resetAction (s : State) : State := if s.device.state = .resetting then s else s.beginReset.endReset

/-! ## Enable and the configuration load (R161 to R163) -/

/-- The ENABLE action of CTRL: ignored outside OFF (R160, R161). -/
def State.enableAction (s : State) : State :=
  if s.device.state = .off then
    (s.setDevice { s.device with state := .loading, loadAddr := some s.device.configAddr }).setPort
      { s.port with wait4 := s.port.wait4 ++ [.configRead] }
  else s

/-- The load succeeds: the two queues are set, the coalescer takes N and T, and the device is RUNNING (R163). -/
def State.loaded (s : State) (c : ConfigRecord) : State :=
  (((s.setDevice { s.device with state := .running, loadAddr := none }).setCmd
      { s.cmd with queue := some { base := c.cmdBase, size := 2 ^ c.cmdLog }, head := 0, tail := 0, state := .idle }).setWriter
      { s.writer with queue := some { base := c.cplBase, size := 2 ^ c.cplLog }, writeIndex := 0, hostHead := 0,
                      phase := true }).setCoal
    { count := c.count, time := c.time, counter := 0, timer := none }

/-- The response to the CONFIG_READ ends the load with either outcome (R163). -/
def State.configResponse (s : State) (result : ReadResult) : State :=
  let ended := s.setDevice { s.device with loadAddr := none }
  match result with
  | .error => ended.enterFault .configReadError
  | .okay bytes =>
    if s.device.state = .loading ∧ (configRecordOf bytes).valid then s.loaded (configRecordOf bytes)
    else ended.enterFault .configInvalid

/-! ## Queue posts (R147, R108) -/

/-- The tail is checked: the queue is set and the device RUNNING or FAULTED (R147). -/
def State.tailQueue (s : State) : Option Queue :=
  if s.device.state = .running ∨ s.device.state = .faulted then s.cmd.queue else none

/-- A write of CMDQ_TAIL (R147, R148). -/
def State.postTail (s : State) (v : U32) : State :=
  match s.tailQueue with
  | none => s
  | some q =>
    if dist32 s.cmd.head v ≤ q.size ∧ dist32 s.cmd.head s.cmd.tail ≤ dist32 s.cmd.head v then
      let s' := s.setCmd { s.cmd with tail := v }
      if s.cmd.state = .idle ∧ s.cmd.head ≠ v then s'.presentCmdRead else s'
    else s.rejectPost .tail none v .range

/-- The limit index E (R108). -/
def Writer.limit (w : Writer) : U32 := if w.outstanding then w.writeIndex + 1 else w.writeIndex

/-- A write of CPLQ_HEAD (R108). -/
def State.postHead (s : State) (v : U32) : State :=
  if s.writer.queue.isNone then s
  else if dist32 s.writer.hostHead v ≤ dist32 s.writer.hostHead s.writer.limit then
    (s.setWriter { s.writer with hostHead := v }).presentCpl
  else s.rejectPost .head none v .range

/-! ## The register window (R159, R160, R173) -/

/-- A write of CTRL: its ACTION byte alone decides (R160, R173). -/
def State.control (s : State) (v : U32) : State :=
  if ctrlAction v = 0x01 then s.enableAction else if ctrlAction v = 0x02 then s.resetAction else s

/-- A write of CONFIG_ADDR_LO: bits 5 to 31 (R159). -/
def State.setAddrLow (s : State) (v : U32) : State :=
  s.setDevice { s.device with
    configAddr := s.device.configAddr.extractLsb' 32 32 ++ (v.extractLsb' 5 27 ++ 0#5) }

/-- A write of CONFIG_ADDR_HI (R159). -/
def State.setAddrHigh (s : State) (v : U32) : State :=
  s.setDevice { s.device with configAddr := v ++ s.device.configAddr.extractLsb' 0 32 }

/-- The 32-bit registers of the window, in its order (R159). -/
inductive Reg where
  | ctrl
  | status
  | configAddrLo
  | configAddrHi
  | cmdqTail
  | chanPost
  | cplqHead
  | irqCause
  | irqMask
  | deviceIdReg
  deriving DecidableEq, Repr

/-- The register at an offset; none from 0x28 on and between multiples of 4 (R159). -/
def regAt (offset : BitVec 6) : Option Reg :=
  match offset.toNat with
  | 0x00 => some .ctrl
  | 0x04 => some .status
  | 0x08 => some .configAddrLo
  | 0x0C => some .configAddrHi
  | 0x10 => some .cmdqTail
  | 0x14 => some .chanPost
  | 0x18 => some .cplqHead
  | 0x1C => some .irqCause
  | 0x20 => some .irqMask
  | 0x24 => some .deviceIdReg
  | _ => none

/-- A 32-bit write of a register (R159). -/
def State.writeReg (s : State) (reg : Reg) (v : U32) : State :=
  match reg with
  | .ctrl => s.control v
  | .status => s
  | .configAddrLo => s.setAddrLow v
  | .configAddrHi => s.setAddrHigh v
  | .cmdqTail => s.postTail v
  | .chanPost => s.postProducer (postChannel v) (postIndex v)
  | .cplqHead => s.postHead v
  | .irqCause => s.setCause (s.irqCause.clearOnes v)
  | .irqMask => s.setMask (Irq.ofBits v)
  | .deviceIdReg => s

/-- A register write reaches the part; while RESETn is low it is ignored (R168). -/
def State.hostWrite (s : State) (reg : Reg) (v : U32) : State := if s.device.resetLow then s else s.writeReg reg v

def DevState.code : DevState → BitVec 3
  | .off => 0
  | .loading => 1
  | .running => 2
  | .faulted => 3
  | .resetting => 4

def FaultCode.code : FaultCode → BitVec 3
  | .none => 0
  | .configReadError => 1
  | .configInvalid => 2
  | .cmdReadError => 3
  | .cplWriteError => 4

/-- What a 32-bit read of a register returns (R159, R173). -/
def State.readReg (s : State) (reg : Reg) : U32 :=
  match reg with
  | .ctrl => 0
  | .status => 0#21 ++ s.device.fault.code ++ 0#5 ++ s.device.state.code
  | .configAddrLo => s.device.configAddr.extractLsb' 0 32
  | .configAddrHi => s.device.configAddr.extractLsb' 32 32
  | .cmdqTail => s.cmd.tail
  | .chanPost => 0
  | .cplqHead => s.writer.hostHead
  | .irqCause => s.irqCause.bits
  | .irqMask => s.irqMask.bits
  | .deviceIdReg => deviceId

/-- The register that holds the byte at an offset. -/
def wordAt (offset : BitVec 6) : Option Reg := regAt (offset &&& 0x3C#6)

/-- A read of the register window (R159): a 32-bit read at no register's offset returns 0, a narrower one the addressed
bytes of the register. No row of the table reads a register, and a 16-bit read at an offset that is 3 modulo 4, whose
second byte lies outside the register, returns the top byte of the register with zero above it (DESIGN CHOICE, log 24). -/
def State.readRegister (s : State) (offset : BitVec 6) (width : AccessWidth) : U32 :=
  match width with
  | .w32 => ((regAt offset).map s.readReg).getD 0
  | .w16 => (((wordAt offset).map s.readReg).getD 0 >>> (8 * (offset.toNat % 4))) &&& 0xFFFF#32
  | .w8 => (((wordAt offset).map s.readReg).getD 0 >>> (8 * (offset.toNat % 4))) &&& 0xFF#32

/-! ## The rows -/

/-- ENABLE: a write of CTRL with ACTION 0x01 (R160, R161). -/
def execEnable (upper : BitVec 24) (s : State) : Result := .next (s.hostWrite .ctrl (upper ++ 0x01#8))

/-- RESET: a write of CTRL with ACTION 0x02 (R160, R166). -/
def execReset (upper : BitVec 24) (s : State) : Result := .next (s.hostWrite .ctrl (upper ++ 0x02#8))

/-- CMDQ_TAIL_WRITE (R147). -/
def execCmdqTailWrite (v : U32) (s : State) : Result := .next (s.hostWrite .cmdqTail v)

/-- CHAN_POST_WRITE (R81, R82). -/
def execChanPostWrite (v : U32) (s : State) : Result := .next (s.hostWrite .chanPost v)

/-- CPLQ_HEAD_WRITE (R108). -/
def execCplqHeadWrite (v : U32) (s : State) : Result := .next (s.hostWrite .cplqHead v)

/-- IRQ_CAUSE_WRITE (R119). -/
def execIrqCauseWrite (v : U32) (s : State) : Result := .next (s.hostWrite .irqCause v)

/-- IRQ_MASK_WRITE (R120). -/
def execIrqMaskWrite (v : U32) (s : State) : Result := .next (s.hostWrite .irqMask v)

/-- REGISTER_WRITE: a 32-bit write at a register's offset is that register's; every other write is ignored (R159, DEDUCED,
assumption log 26). -/
def execRegisterWrite (offset : BitVec 6) (width : AccessWidth) (v : U32) (s : State) : Result :=
  .next (match width, regAt offset with
    | .w32, some reg => s.hostWrite reg v
    | _, _ => s)

/-- SOFT_RESET_END (R167). -/
def execSoftResetEnd (s : State) : Result := .next s.endReset

/-- POWER_ON_RESET: RESETn low (R168). -/
def execPowerOnReset (s : State) : Result :=
  .next { State.reset with
    device := { Device.reset with resetLow := true }
    freeBytes := s.freeBytes
    pending := s.pending
    clocks := s.clocks }

/-- POWER_ON_RESET_RELEASE: RESETn goes high (R168). -/
def execPowerOnResetRelease (s : State) : Result := .next (s.setDevice { s.device with resetLow := false })

end Sys2Proof.Machine
end

