-- ==== Sys2Proof/Machine/Port.lean ====
section
/-! DEFINITION. The Memory Port: the arbiter's choice and the grant, and what each response does at its owner
(spec/07). -/

namespace Sys2Proof.Machine

/-! ## The arbiter's choice (R126, R127, R133) -/

/-- A request that the arbiter grants. -/
inductive Chosen where
  | cpl
  | data (pr : Priority) (c : ChanId)
  | desc (c : ChanId)
  | class4 (r : Class4)
  deriving DecidableEq, Repr

/-- A data request of the channel waits in the class, below the port's own limit, and its requester still wants it
(R125, R126, DEDUCED, assumption log 17). -/
def State.dataEligible (s : State) (pr : Priority) (c : ChanId) : Bool :=
  s.port.waitData pr c && decide (s.port.data c < dataLimit) && (s.chan c).wantsData (s.port.data c)

/-- A descriptor read of the channel waits, below the port's own limit, and is still wanted (R125, R126). -/
def State.descEligible (s : State) (c : ChanId) : Bool :=
  s.port.waitDesc c && decide (s.port.desc c < descLimit) && (s.chan c).wantsDesc

/-- The round-robin pointer of a data class (R127). -/
def Port.dataPtr (p : Port) (pr : Priority) : ChanId :=
  match pr with
  | .urgent => p.ptr1
  | .normal => p.ptr2

def Port.setDataPtr (p : Port) (pr : Priority) (c : ChanId) : Port :=
  match pr with
  | .urgent => { p with ptr1 := c }
  | .normal => { p with ptr2 := c }

/-- The channel that a data class would grant: the first eligible one after the pointer (R127). -/
def State.nextData (s : State) (pr : Priority) : Option ChanId :=
  (roundRobin (s.port.dataPtr pr)).find? (s.dataEligible pr)

/-- The channel that class 3 would grant (R127). -/
def State.nextDesc (s : State) : Option ChanId := (roundRobin s.port.ptr3).find? s.descEligible

/-- The request of the lowest class that has an eligible one, while RUNNING (R126, R127). -/
def State.chooseRunning (s : State) : Option Chosen :=
  if s.port.wait0 && s.writer.wantsWrite then some .cpl
  else
    match s.nextData .urgent with
    | some c => some (.data .urgent c)
    | none =>
      match s.nextData .normal with
      | some c => some (.data .normal c)
      | none =>
        match s.nextDesc with
        | some c => some (.desc c)
        | none => s.port.wait4.head?.map Chosen.class4

/-- What the arbiter would grant in the device state (R133). -/
def State.choose (s : State) : Option Chosen :=
  match s.device.state with
  | .running => s.chooseRunning
  | .loading => if Class4.configRead ∈ s.port.wait4 then some (.class4 .configRead) else none
  | .off | .faulted | .resetting => none

/-! ## The grant (R128) -/

/-- The transaction takes the entry, and the channel's count rises when it has one (R128). -/
def Port.enter (p : Port) (tag : TagId) (t : Transaction) : Port :=
  let p := p.setEntry tag (some t)
  match t.channel with
  | none => p
  | some c => if t.cls = 3 then p.setDesc c (p.desc c + 1) else p.setData c (p.data c + 1)

def Priority.cls : Priority → Nat
  | .urgent => 1
  | .normal => 2

/-- The CPL_WRITE of the oldest entry of the pending list (R105, R106). -/
def Writer.transaction (w : Writer) (q : Queue) (c : Completion) : Transaction :=
  { kind := .cplWrite, cls := 0, channel := none,
    address := q.base + BitVec.ofNat 64 (w.writeIndex.toNat % q.size * 32), length := 32, bytes := c.bytes w.phase,
    ref := .plain }

/-- The grant of the completion write. -/
def State.grantCpl (s : State) (tag : TagId) : State :=
  match s.writer.queue, s.writer.list.head? with
  | some q, some c =>
    (s.setPort { s.port.enter tag (s.writer.transaction q c) with wait0 := false }).setWriter
      { s.writer with outstanding := true }
  | _, _ => s

/-- The data transaction of an issue (R123, R128). -/
def dataTransaction (cfg : ChanConfig) (pr : Priority) (c : ChanId) (i : Issue) : Transaction :=
  { kind := match cfg.dir with
      | .rx => .rxWrite
      | .tx => .txRead
    cls := pr.cls, channel := some c, address := i.address, length := i.length, bytes := i.bytes,
    ref := .data i.request i.lane }

/-- The grant of a data request: the requester fixes its content in the same change (R73, R75, R78, R128). -/
def State.grantData (s : State) (tag : TagId) (pr : Priority) (c : ChanId) : State :=
  match (s.chan c).dataGrant with
  | (_, none) => s
  | (ch, some i) =>
    (s.setPort (((s.port.setWaitData pr c false).setDataPtr pr c).enter tag
      (dataTransaction (s.chan c).cfg pr c i))).update c (ch, [])

/-- The DESC_READ at the fetch position (R83, R123). -/
def Channel.descTransaction (ch : Channel) (c : ChanId) : Transaction :=
  { kind := .descRead, cls := 3, channel := some c, address := ch.descAddress, length := 16, bytes := [], ref := .plain }

/-- The grant of a descriptor read (R83, R128). -/
def State.grantDesc (s : State) (tag : TagId) (c : ChanId) : State :=
  (s.setPort ({ s.port.setWaitDesc c false with ptr3 := c }.enter tag ((s.chan c).descTransaction c))).update c
    ({ s.chan c with descRead := .outstanding }, [])

/-- The CMD_READ of the record at the head (R146, R148). -/
def CmdProc.transaction (c : CmdProc) (q : Queue) : Transaction :=
  { kind := .cmdRead, cls := 4, channel := none,
    address := q.base + BitVec.ofNat 64 (c.head.toNat % q.size * 64), length := 64, bytes := [], ref := .head c.head }

/-- The CONFIG_READ of the load (R161). -/
def configTransaction (addr : U64) : Transaction :=
  { kind := .configRead, cls := 4, channel := none, address := addr, length := 32, bytes := [], ref := .plain }

/-- One piece of a list transfer (R25, R30). -/
def ListTransfer.transaction (t : ListTransfer) (number : Nat) : Transaction :=
  let piece := t.pieces.getD number (0, 0)
  { kind := match t.dir with
      | .readList => .listRead
      | .writeCopy => .listWrite
    cls := 4, channel := none, address := t.base + BitVec.ofNat 64 piece.1, length := piece.2,
    bytes := match t.dir with
      | .readList => []
      | .writeCopy => (t.copy.drop piece.1).take piece.2
    ref := .piece number }

/-- The transaction of a class 4 request. -/
def State.class4Transaction (s : State) (r : Class4) : Option Transaction :=
  match r with
  | .cmdRead => s.cmd.queue.map s.cmd.transaction
  | .configRead => s.device.loadAddr.map configTransaction
  | .listPiece n => s.transfer.map fun t => t.transaction n

/-- The piece has been issued. -/
def ListTransfer.issue (t : ListTransfer) (r : Class4) : ListTransfer :=
  match r with
  | .listPiece _ => { t with issued := t.issued + 1 }
  | .cmdRead => t
  | .configRead => t

/-- The grant of a class 4 request. -/
def State.grantClass4 (s : State) (tag : TagId) (r : Class4) : State :=
  match s.class4Transaction r with
  | none => s
  | some t =>
    (s.setPort { s.port.enter tag t with wait4 := s.port.wait4.erase r }).setTransfer
      (s.transfer.map fun x => x.issue r)

/-- The chosen request is granted into an entry. -/
def State.grantChosen (s : State) (tag : TagId) (g : Chosen) : State :=
  match g with
  | .cpl => s.grantCpl tag
  | .data pr c => s.grantData tag pr c
  | .desc c => s.grantDesc tag c
  | .class4 r => s.grantClass4 tag r

/-- GRANT: one waiting request into the lowest free entry (R126 to R128, DESIGN CHOICE, assumption log 4). -/
def execGrant (s : State) : Result :=
  .next (match s.port.freeEntry, s.choose with
    | some tag, some g => s.grantChosen tag g
    | _, _ => s)

/-! ## Responses (R129 to R131, R134) -/

/-- The entry is freed and the channel's count falls when the transaction had one (R129). -/
def Port.leaveEntry (p : Port) (tag : TagId) (t : Transaction) : Port :=
  let p := p.setEntry tag none
  match t.channel with
  | none => p
  | some c => if t.cls = 3 then p.setDesc c (p.desc c - 1) else p.setData c (p.data c - 1)

/-- What a response carries: a write's carries its status alone (R122). -/
def answerOf (status : BusStatus) : ReadResult :=
  match status with
  | .okay => .okay []
  | .error => .error

def isOkay (answer : ReadResult) : Bool :=
  match answer with
  | .okay _ => true
  | .error => false

/-- Bytes that a response to a read of `length` bytes does not carry. None is missing but where a stale response of another
transaction bears the tag (R168). -/
def missingBytes (answer : ReadResult) (length : Nat) : Nat :=
  match answer with
  | .okay bytes => length - bytes.length
  | .error => 0

/-- The whole of a read's bytes as its requester takes them: those carried, up to its length, and a free byte for each that is
missing (R122, R129, R168, DESIGN CHOICE, assumption log 7). -/
def wholeAnswer (answer : ReadResult) (length used : Nat) : ReadResult :=
  match answer with
  | .okay bytes =>
    .okay (bytes.take length ++ (List.range (length - bytes.length)).map fun i => Config.freeByte (used + i))
  | .error => .error

/-- The response to a completion write (R107). -/
def State.cplResponse (s : State) (ok : Bool) : State :=
  if ok then
    let w := s.writer
    let size := (w.queue.map Queue.size).getD 1
    let s := s.setWriter { w with
      list := w.list.tail, outstanding := false, writeIndex := w.writeIndex + 1,
      phase := if (w.writeIndex + 1).toNat % size = 0 then !w.phase else w.phase }
    s.countEntry.presentCpl
  else (s.setWriter { s.writer with outstanding := false }).enterFault .cplWriteError

/-- The channel and the request of a data transaction's response. -/
def Transaction.dataRef (t : Transaction) : Option (ChanId × Nat × Nat) :=
  match t.channel, t.ref with
  | some c, .data request lane => some (c, request, lane)
  | _, _ => none

/-- The response to a data transaction reaches the Stream Mover of its channel (R53, R73, R76, R78, R96, R99). -/
def State.dataAnswer (s : State) (t : Transaction) (bytes : Option (List Byte)) (ok : Bool) : State :=
  match t.dataRef with
  | none => s
  | some (c, request, lane) =>
    let ch := match bytes with
      | some bs => (s.chan c).readData request lane bs
      | none => s.chan c
    s.update c (ch.dataResponse request ok)

/-- A descriptor read answered OKAY and not absorbed: validated, with its window claimed when it is valid (R84 to R87). -/
def State.joinDescriptor (s : State) (c : ChanId) (bytes : List Byte) : State :=
  let ch := { s.chan c with descRead := .none }
  let d := descriptorOf bytes
  if d.malformed ch.cfg then s.update c (ch.join (d.record ch.fetch (.error .badDescriptor)), [])
  else
    match s.findWindow d.address.toNat (d.span ch.cfg) (match ch.cfg.dir with
      | .rx => .write
      | .tx => .read) with
    | none => s.update c (ch.join (d.record ch.fetch (.error .windowFault)), [])
    | some w => (s.claim w).update c (ch.join (d.record ch.fetch (.ok w)), [])

/-- The response to a descriptor read (R84, R98). -/
def State.descAnswer (s : State) (t : Transaction) (result : ReadResult) : State :=
  match t.channel with
  | none => s
  | some c =>
    if (s.chan c).descRead = .outstanding then
      match result with
      | .okay bytes => s.joinDescriptor c bytes
      | .error => s.update c (({ s.chan c with descRead := .none } : Channel).descHalt, [])
    else s.update c ({ s.chan c with descRead := .none }, [])

/-- The response to a CMD_READ (R148, R149, R156): in FETCHING an OKAY record comes in hand and a reservation is asked for, which
is granted at once where it can be. -/
def State.cmdAnswer (s : State) (result : ReadResult) : State :=
  match result with
  | .error => s.enterFault .cmdReadError
  | .okay bytes =>
    if s.cmd.state = .fetching then (s.setCmd { s.cmd with inHand := some bytes, state := .waitSpace }).grantWaiting else s

/-- The response to a piece of a list transfer. -/
def State.listAnswer (s : State) (t : Transaction) (result : ReadResult) : State :=
  match t.ref with
  | .piece number => s.pieceResponse number result
  | .plain => s
  | .data _ _ => s
  | .head _ => s

/-- The response to a TX read reaches the Stream Mover with its bytes, or without (R76). -/
def State.readAnswer (s : State) (t : Transaction) (answer : ReadResult) : State :=
  match answer with
  | .okay bytes => s.dataAnswer t (some bytes) true
  | .error => s.dataAnswer t none false

/-- The response to a read reaches its requester with the whole of its bytes. -/
def State.readWhole (s : State) (t : Transaction) (answer : ReadResult) (owner : State → ReadResult → State) : State :=
  owner (s.setFreeBytes (s.freeBytes + missingBytes answer t.length)) (wholeAnswer answer t.length s.freeBytes)

/-- The requester that the entry names takes the response, by the kind of its own transaction (R129 to R131). -/
def State.deliver (s : State) (t : Transaction) (answer : ReadResult) : State :=
  match t.kind with
  | .cplWrite => s.cplResponse (isOkay answer)
  | .rxWrite => s.dataAnswer t none (isOkay answer)
  | .txRead => s.readWhole t answer fun s a => s.readAnswer t a
  | .descRead => s.readWhole t answer fun s a => s.descAnswer t a
  | .cmdRead => s.readWhole t answer State.cmdAnswer
  | .listRead => s.readWhole t answer fun s a => s.listAnswer t a
  | .listWrite => s.listAnswer t answer
  | .configRead => s.readWhole t answer State.configResponse

/-- A response is matched by its tag alone: the entry is freed and the requester it names takes the response, whatever the row and
the bytes it carries (R129, R168). With the tag of a free entry it is ignored (R129); while RESETTING it is discarded
(R134). -/
def State.respond (s : State) (tag : TagId) (answer : ReadResult) : State :=
  match s.port.entry tag with
  | none => s
  | some t =>
    let s' := s.setPort (s.port.leaveEntry tag t)
    if s.device.state = .resetting then s'.endReset else s'.deliver t answer

/-- CPL_WRITE_RESPONSE (R107). -/
def execCplWriteResponse (tag : TagId) (status : BusStatus) (s : State) : Result := .next (s.respond tag (answerOf status))

/-- RX_WRITE_RESPONSE (R73). -/
def execRxWriteResponse (tag : TagId) (status : BusStatus) (s : State) : Result := .next (s.respond tag (answerOf status))

/-- TX_READ_RESPONSE (R76). -/
def execTxReadResponse (tag : TagId) (result : ReadResult) (s : State) : Result := .next (s.respond tag result)

/-- DESC_READ_RESPONSE (R84). -/
def execDescReadResponse (tag : TagId) (result : ReadResult) (s : State) : Result := .next (s.respond tag result)

/-- CMD_READ_RESPONSE (R148). -/
def execCmdReadResponse (tag : TagId) (result : ReadResult) (s : State) : Result := .next (s.respond tag result)

/-- LIST_READ_RESPONSE (R25). -/
def execListReadResponse (tag : TagId) (result : ReadResult) (s : State) : Result := .next (s.respond tag result)

/-- LIST_WRITE_RESPONSE (R30). -/
def execListWriteResponse (tag : TagId) (status : BusStatus) (s : State) : Result := .next (s.respond tag (answerOf status))

/-- CONFIG_READ_RESPONSE (R163). -/
def execConfigReadResponse (tag : TagId) (result : ReadResult) (s : State) : Result := .next (s.respond tag result)

/-- RESPONSE_MATCHING_NO_TRANSACTION: a response with the tag of a free entry, which no block sees (R129). With the tag of an entry
in use the row's condition does not hold, and it has no effect (DESIGN CHOICE, assumption log 2). -/
def execResponseMatchingNoTransaction (_tag : TagId) (s : State) : Result := .next s

end Sys2Proof.Machine
end

