-- ==== Sys2Proof/Machine/Settings.lean ====
section
/-! DEFINITION. The commands of the Window Table, of the Interrupt Coalescer and of the Command Processor itself:
SET_WINDOW, SET_COALESCING, NOP and the unknown kind (R141, R118, R154, R150). -/

namespace Sys2Proof.Machine

/-! ## SET_WINDOW (R141) -/

/-- The enable flag of SET_WINDOW (spec/11). -/
def enableBit (r : List Byte) : Bool := (byteAt r 17).getLsbD 0

/-- Base and limit of an enabled window: whole 4 KiB pages, the limit at least the base (R141, check 4). -/
def windowRangeOk (base limit : U64) : Bool :=
  base.toNat % 4096 == 0 && (limit.toNat + 1) % 4096 == 0 && decide (base.toNat ≤ limit.toNat)

/-- The window as SET_WINDOW leaves it (R141). -/
def Window.setTo (w : Window) (r : List Byte) : Window :=
  if enableBit r then
    { enabled := true, base := u64At r 24, limit := u64At r 32, read := (byteAt r 18).getLsbD 0,
      write := (byteAt r 18).getLsbD 1, use := w.use }
  else { Window.reset with use := w.use }

/-- The COMMAND_DONE of SET_WINDOW: the window index as read, frame stamp 0 (R141). -/
def windowDone (r : List Byte) (st : Status) : Completion := commandDone .setWindow (cmdTag r) st (byteAt r 16) 0

/-- SET_WINDOW at its owner, in the order of R141. -/
def State.setWindowCommand (r : List Byte) (s : State) : State :=
  match winOf (byteAt r 16) with
  | none => s.complete (windowDone r .badParam)
  | some w =>
    if !(reservedZero .setWindow r) then s.complete (windowDone r .badParam)
    else if (s.window w).use ≠ 0 then
      s.complete { windowDone r .inUse with v0 := BitVec.ofNat 32 (s.window w).use }
    else if enableBit r ∧ !(windowRangeOk (u64At r 24) (u64At r 32)) then s.complete (windowDone r .badParam)
    else (s.setWindow w ((s.window w).setTo r)).complete (windowDone r .ok)

/-! ## SET_COALESCING (R118) -/

/-- The coalescer fires on what stands after a change of its thresholds (R118). -/
def Coalescer.firesAfterChange (c : Coalescer) : Bool :=
  decide (c.count ≤ c.counter)
    || (decide (0 < c.counter) && c.time != 0
        && (match c.timer with
            | some e => decide (c.time ≤ e)
            | none => false))

/-- The thresholds are stored and the coalescer acts on its counter and timer as they stand (R118). -/
def State.setThresholds (s : State) (count time : Nat) : State :=
  let s := s.setCoal { s.coal with count := count, time := time }
  if s.coal.firesAfterChange then s.fire else s

def coalescingDone (r : List Byte) (st : Status) : Completion := commandDone .setCoalescing (cmdTag r) st 0 0

/-- SET_COALESCING at its owner (R118). -/
def State.setCoalescing (r : List Byte) (s : State) : State :=
  let n := (u16At r 16).toNat
  if 1 ≤ n ∧ n ≤ 255 ∧ reservedZero .setCoalescing r then
    (s.setThresholds n (u16At r 18).toNat).complete
      { coalescingDone r .ok with v0 := BitVec.ofNat 32 s.coal.count, v1 := BitVec.ofNat 32 s.coal.time }
  else s.complete (coalescingDone r .badParam)

/-! ## NOP and the unknown kind (R154, R150) -/

/-- NOP: its first value is the head at its take, whatever the status (R154). -/
def State.nop (r : List Byte) (s : State) : State :=
  s.complete { commandDone .nop (cmdTag r) (if reservedZero .nop r then .ok else .badParam) 0 0 with v0 := s.cmd.head }

/-- SET_WINDOW (R141). -/
def execSetWindow (s : State) : Result := .next (s.take .setWindow State.setWindowCommand)

/-- SET_COALESCING (R118). -/
def execSetCoalescing (s : State) : Result := .next (s.take .setCoalescing State.setCoalescing)

/-- NOP (R154). -/
def execNop (s : State) : Result := .next (s.take .nop State.nop)

/-- A record of unknown kind completes UNKNOWN_COMMAND (R150). -/
def execUnknownCommand (s : State) : Result :=
  .next (match s.atTake with
    | some (r, s') =>
      if knownKind (cmdKindByte r) then s else s'.complete (unknownDone (cmdTag r) (cmdKindByte r))
    | none => s)

end Sys2Proof.Machine
end

