-- ==== Sys2Proof/Machine/Dispatch.lean ====
section
/-! DEFINITION. One arm per command of the table, each the direct call of its meaning. -/

namespace Sys2Proof.Machine

/-- The effect of a command on everything but the queue of waiting commands. -/
def exec (i : Instr) (s : State) : Host.Outcome State Fault Refusal :=
  match i with
  | .configureLink => Sys2Proof.Machine.execConfigureLink s
  | .startLink => Sys2Proof.Machine.execStartLink s
  | .stopLink => Sys2Proof.Machine.execStopLink s
  | .writeSlotMap => Sys2Proof.Machine.execWriteSlotMap s
  | .copySlotMap => Sys2Proof.Machine.execCopySlotMap s
  | .readSlotMap => Sys2Proof.Machine.execReadSlotMap s
  | .swapSlotMap => Sys2Proof.Machine.execSwapSlotMap s
  | .openChannel => Sys2Proof.Machine.execOpenChannel s
  | .closeChannel => Sys2Proof.Machine.execCloseChannel s
  | .resumeChannel => Sys2Proof.Machine.execResumeChannel s
  | .queryChannel => Sys2Proof.Machine.execQueryChannel s
  | .setWindow => Sys2Proof.Machine.execSetWindow s
  | .setCoalescing => Sys2Proof.Machine.execSetCoalescing s
  | .nop => Sys2Proof.Machine.execNop s
  | .unknownCommand => Sys2Proof.Machine.execUnknownCommand s
  | .enable upper => Sys2Proof.Machine.execEnable upper s
  | .reset upper => Sys2Proof.Machine.execReset upper s
  | .cmdqTailWrite value => Sys2Proof.Machine.execCmdqTailWrite value s
  | .chanPostWrite value => Sys2Proof.Machine.execChanPostWrite value s
  | .cplqHeadWrite value => Sys2Proof.Machine.execCplqHeadWrite value s
  | .irqCauseWrite value => Sys2Proof.Machine.execIrqCauseWrite value s
  | .irqMaskWrite value => Sys2Proof.Machine.execIrqMaskWrite value s
  | .registerWrite offset width value => Sys2Proof.Machine.execRegisterWrite offset width value s
  | .syncPulseLock link => Sys2Proof.Machine.execSyncPulseLock link s
  | .syncOnTime link => Sys2Proof.Machine.execSyncOnTime link s
  | .freewheel link => Sys2Proof.Machine.execFreewheel link s
  | .linkLoss link => Sys2Proof.Machine.execLinkLoss link s
  | .slip link => Sys2Proof.Machine.execSlip link s
  | .frameBoundaryOut link => Sys2Proof.Machine.execFrameBoundaryOut link s
  | .transmitSlotLaunch link slot => Sys2Proof.Machine.execTransmitSlotLaunch link slot s
  | .receiveSlotComplete link slot sample => Sys2Proof.Machine.execReceiveSlotComplete link slot sample s
  | .groupDeparture channel => Sys2Proof.Machine.execGroupDeparture channel s
  | .grant => Sys2Proof.Machine.execGrant s
  | .cplWriteResponse tag status => Sys2Proof.Machine.execCplWriteResponse tag status s
  | .rxWriteResponse tag status => Sys2Proof.Machine.execRxWriteResponse tag status s
  | .txReadResponse tag result => Sys2Proof.Machine.execTxReadResponse tag result s
  | .descReadResponse tag result => Sys2Proof.Machine.execDescReadResponse tag result s
  | .cmdReadResponse tag result => Sys2Proof.Machine.execCmdReadResponse tag result s
  | .listReadResponse tag result => Sys2Proof.Machine.execListReadResponse tag result s
  | .listWriteResponse tag status => Sys2Proof.Machine.execListWriteResponse tag status s
  | .configReadResponse tag result => Sys2Proof.Machine.execConfigReadResponse tag result s
  | .admission => Sys2Proof.Machine.execAdmission s
  | .coalescingCountReached => Sys2Proof.Machine.execCoalescingCountReached s
  | .coalescingTimerExpiry => Sys2Proof.Machine.execCoalescingTimerExpiry s
  | .closeEnd channel => Sys2Proof.Machine.execCloseEnd channel s
  | .softResetEnd => Sys2Proof.Machine.execSoftResetEnd s
  | .powerOnReset => Sys2Proof.Machine.execPowerOnReset s
  | .powerOnResetRelease => Sys2Proof.Machine.execPowerOnResetRelease s
  | .timebaseTick => Sys2Proof.Machine.execTimebaseTick s
  | .responseMatchingNoTransaction tag => Sys2Proof.Machine.execResponseMatchingNoTransaction tag s

end Sys2Proof.Machine
end

