-- ==== Sys2Proof/Machine/Step.lean ====
section
/-! DEFINITION. One step: the command at the front of the queue reaches the part, or else the next bit clock does. -/

namespace Sys2Proof.Machine

/-- One step of the block. On an empty queue the next bit clock of a link comes, and with none to come it idles (DESIGN CHOICE,
assumption log 1). -/
def step (s : State) : Host.Outcome State Fault Refusal :=
  match s.pending, s.clocks with
  | c :: rest, _ => exec c (s.setPending rest)
  | [], b :: rest => .next ((s.setClocks rest).bitClock b)
  | [], [] => .next s

/-- The command that a word spells goes to the front of the queue; no word spells one. -/
def State.withFetchWord (s : State) (nbits w : Nat) : State :=
  match decodeTableWord nbits w with
  | some c => s.setPending (c :: s.pending)
  | none => s

end Sys2Proof.Machine
end

