-- ==== Sys2Proof/Safety.lean ====
section
/-! DEFINITION. The terms in which claims about the part are stated: a command at its take and the part after it, what the
handling of channels may change, and the laws that every step keeps. -/

namespace Sys2Proof.Machine

/-! ## A command at its take (R150, R152) -/

/-- The Command Processor is taking the command of record `r`, which has not been dispatched (R145, R150). -/
structure State.Taking (s : State) (r : List Byte) : Prop where
  running : s.device.state = .running
  taking : s.cmd.state = .taking
  reserved : s.cmd.reserved = true
  hand : s.cmd.inHand = some r
  idle : s.transfer = none

/-- The taking of a command is done (R152): nothing in hand, head plus one, and either IDLE or the CMD_READ of the next record
presented. -/
def State.leftCommand (s : State) : State :=
  { s with
    cmd := { s.cmd with head := s.cmd.head + 1, inHand := none, reserved := false,
                        state := if s.cmd.head + 1 = s.cmd.tail then .idle else .fetching }
    port := { s.port with
      wait4 := if s.cmd.head + 1 = s.cmd.tail then s.port.wait4 else s.port.wait4 ++ [.cmdRead] } }

/-- While RUNNING, a completion enters its reservation at the tail of the pending list, and its write is presented when R106
allows one (R110). -/
def State.withDone (s : State) (x : Completion) : State :=
  { s with
    writer := { s.writer with list := s.writer.list ++ [x], reservations := s.writer.reservations - 1 }
    port := { s.port with
      wait0 := s.writer.queue.any fun q =>
        !s.writer.outstanding && decide ((s.writer.writeIndex - s.writer.hostHead).toNat < q.size) } }

/-- A command completes at its take. -/
def State.doneWith (s : State) (x : Completion) : State := (s.withDone x).leftCommand

/-- A COMMAND_DONE whose index fields and values are zero (R155, R172): the kind value of the command, its tag, status, source
and frame stamp. -/
def doneReport (kind : BitVec 4) (tag : U32) (st : Status) (source : Byte) (stamp : U32) : Completion :=
  { kind := .commandDone, command := kind, status := st,
    flags := { overrun := false, underrun := false, gap := false, wrapped := false, tagAbsent := false },
    source := source, tag := tag, ring := 0, consumed := 0, v0 := 0, v1 := 0, v2 := 0, v3 := 0, stamp := stamp }

/-- Every byte of a command record outside the listed ones is zero (R151, R169). -/
abbrev ReservedZero (r : List Byte) (used : List Nat) : Prop := ∀ i, i < 64 → i ∉ used → byteAt r i = 0

/-- The window covers the range with the permission (R136). -/
abbrev Window.Covers (w : Window) (start length : Nat) (a : Access) : Prop :=
  w.enabled = true ∧ w.grants a = true ∧ w.base.toNat ≤ start ∧ start + length - 1 ≤ w.limit.toNat

/-- The range check picks this window: the lowest-numbered one that covers the range (R136). -/
abbrev State.Picks (s : State) (start length : Nat) (a : Access) (w : WinId) : Prop :=
  (s.window w).Covers start length a ∧ ∀ k, k < w → ¬ (s.window k).Covers start length a

/-- No window covers the range. -/
abbrev State.PicksNone (s : State) (start length : Nat) (a : Access) : Prop := ∀ w, ¬ (s.window w).Covers start length a

/-- The window with one more reference (R138). -/
def Window.claimed (w : Window) : Window := { w with use := w.use + 1 }

/-- A pending swap performed, or a swap performed at its take: the banks exchange roles and the COMMAND_DONE carries the
cause and the frame counter as it stands (R37). -/
def State.exchanged (s : State) (l : LinkId) (tag : U32) (cause : U32) : State :=
  { s with maps := s.maps.set l.val { active := (s.map l).standby, standby := (s.map l).active, swapPending := false,
                                      swapTag := none } }.withDone
    { doneReport 8 tag .ok (BitVec.ofNat 8 l.val) (s.link l).frame with v0 := cause }

/-- The pending list has room for a reservation, and no link event record and no device event record waits before the command
(R110, R111, R149). -/
structure State.Grantable (s : State) : Prop where
  place : s.writer.list.length + s.writer.reservations < 32
  held : s.writer.reservations < 24
  device : s.writer.devEvent = none
  links : ∀ l, (s.link l).event = none

/-- The command in hand has its reservation and is at its take (R149). -/
def State.granted (s : State) : State :=
  { s with cmd := { s.cmd with state := .taking, reserved := true }
           writer := { s.writer with reservations := s.writer.reservations + 1 } }

/-- The rows that are commands of the command queue, with the kind byte that each one takes (spec/11). -/
def commandRows : List (Instr × CmdKind) :=
  [(.nop, .nop), (.configureLink, .configureLink), (.startLink, .startLink), (.stopLink, .stopLink),
   (.writeSlotMap, .writeSlotMap), (.copySlotMap, .copySlotMap), (.readSlotMap, .readSlotMap),
   (.swapSlotMap, .swapSlotMap), (.openChannel, .openChannel), (.closeChannel, .closeChannel),
   (.resumeChannel, .resumeChannel), (.queryChannel, .queryChannel), (.setWindow, .setWindow),
   (.setCoalescing, .setCoalescing)]

/-- The rows that are writes of the register window. -/
def isRegisterWrite : Instr → Bool
  | .enable _ | .reset _ | .cmdqTailWrite _ | .chanPostWrite _ | .cplqHeadWrite _ | .irqCauseWrite _ | .irqMaskWrite _
  | .registerWrite _ _ _ => true
  | .configureLink | .startLink | .stopLink | .writeSlotMap | .copySlotMap | .readSlotMap | .swapSlotMap
  | .openChannel | .closeChannel | .resumeChannel | .queryChannel | .setWindow | .setCoalescing | .nop
  | .unknownCommand | .syncPulseLock _ | .syncOnTime _ | .freewheel _ | .linkLoss _
  | .slip _ | .frameBoundaryOut _ | .transmitSlotLaunch _ _ | .receiveSlotComplete _ _ _ | .groupDeparture _
  | .grant | .cplWriteResponse _ _ | .rxWriteResponse _ _ | .txReadResponse _ _ | .descReadResponse _ _
  | .cmdReadResponse _ _ | .listReadResponse _ _ | .listWriteResponse _ _ | .configReadResponse _ _ | .admission
  | .coalescingCountReached | .coalescingTimerExpiry | .closeEnd _ | .softResetEnd | .powerOnReset
  | .powerOnResetRelease | .timebaseTick | .responseMatchingNoTransaction _ => false

/-- The part after the rows have come one after another, none of them stopping. -/
def runRows : List Instr → State → Option State
  | [], s => some s
  | c :: cs, s =>
    match exec c s with
    | .next t => runRows cs t
    | .fault _ => none
    | .refused _ => none

/-- The row that may fall at the end of a slot: where the slot is that of the last lane of a transmit channel, the departure of the
channel's group (R68). -/
def State.departures (s : State) (l : LinkId) (slot : SlotId) : List Instr :=
  match (s.map l).active[slot.val].tx with
  | some h => if h.lane.val + 1 = (s.chan h.chan).cfg.lanes then [.groupDeparture h.chan] else []
  | none => []

/-! ## What the handling of channels may change -/

/-- From `s` to `t` only the channels of `P` have been handled: of the rest of the part, windows may have lost references,
the presented requests of classes 0 to 3 may differ, completions of closes that ended may stand behind the pending list, and
the end of a close may have let the waiting command take its reservation (R111, R149). -/
structure OnlyChannels (P : ChanId → Prop) (s t : State) : Prop where
  device : t.device = s.device
  links : t.links = s.links
  maps : t.maps = s.maps
  transfer : t.transfer = s.transfer
  cmd : t.cmd = s.cmd ∨ (s.device.state = .running ∧ s.cmd.state = .waitSpace ∧ t.writer.list ≠ s.writer.list
    ∧ t.cmd = { s.cmd with state := .taking, reserved := true })
  coal : t.coal = s.coal
  cause : t.irqCause = s.irqCause
  mask : t.irqMask = s.irqMask
  freeBytes : t.freeBytes = s.freeBytes
  pending : t.pending = s.pending
  clocks : t.clocks = s.clocks
  chans : ∀ c, ¬ P c → t.chan c = s.chan c
  windows : ∀ w, ∃ n, n ≤ (s.window w).use ∧ t.window w = { s.window w with use := n }
  port : ∃ w0 w1 w2 w3, t.port = { s.port with wait0 := w0, wait1 := w1, wait2 := w2, wait3 := w3 }
  writer : ∃ more n, (∀ x ∈ more, x.kind = .commandDone ∧ x.command = 0xA ∧ x.status = .ok)
    ∧ t.writer = { s.writer with list := s.writer.list ++ more, reservations := n }

/-! ## Responses and transactions -/

/-- The entry of a transaction is free, and the count of its channel falls (R129). -/
def Port.freed (p : Port) (tag : TagId) (t : Transaction) : Port :=
  { p with
    table := p.table.set tag.val none
    dataCount := match t.channel with
      | some c => if t.cls = 3 then p.dataCount else p.dataCount.set c.val (p.dataCount[c.val] - 1)
      | none => p.dataCount
    descCount := match t.channel with
      | some c => if t.cls = 3 then p.descCount.set c.val (p.descCount[c.val] - 1) else p.descCount
      | none => p.descCount }

/-- The state once a response has freed its entry, before its requester acts on it. -/
def State.answered (s : State) (tag : TagId) (t : Transaction) : State := { s with port := s.port.freed tag t }

/-- What a row that is a response carries: its tag, and a status with the bytes of a read (R122). -/
def responseOf : Instr → Option (TagId × ReadResult)
  | .cplWriteResponse t st | .rxWriteResponse t st | .listWriteResponse t st => some (t, answerOf st)
  | .txReadResponse t r | .descReadResponse t r | .cmdReadResponse t r | .listReadResponse t r
  | .configReadResponse t r => some (t, r)
  | .configureLink | .startLink | .stopLink | .writeSlotMap | .copySlotMap | .readSlotMap | .swapSlotMap
  | .openChannel | .closeChannel | .resumeChannel | .queryChannel | .setWindow | .setCoalescing | .nop
  | .unknownCommand | .enable _ | .reset _ | .cmdqTailWrite _ | .chanPostWrite _ | .cplqHeadWrite _ | .irqCauseWrite _
  | .irqMaskWrite _ | .registerWrite _ _ _ | .syncPulseLock _ | .syncOnTime _ | .freewheel _ | .linkLoss _
  | .slip _ | .frameBoundaryOut _ | .transmitSlotLaunch _ _ | .receiveSlotComplete _ _ _ | .groupDeparture _
  | .grant | .admission | .coalescingCountReached | .coalescingTimerExpiry | .closeEnd _ | .softResetEnd | .powerOnReset
  | .powerOnResetRelease | .timebaseTick | .responseMatchingNoTransaction _ => none

/-- The part after a soft reset: every block at its reset values; the configuration address is kept, and so are the level of
RESETn, the commands that wait to reach the part, the bit clocks to come and the count of free bytes used (R167). -/
def State.afterSoftReset (s : State) : State :=
  { State.reset with
    device := { state := .off, fault := .none, configAddr := s.device.configAddr, loadAddr := none,
                resetLow := s.device.resetLow }
    freeBytes := s.freeBytes
    pending := s.pending
    clocks := s.clocks }

/-- No transaction is outstanding. -/
abbrev Port.Empty (p : Port) : Prop := ∀ tag, p.entry tag = none

/-- The fields of a configuration record that the load uses are valid (R162). -/
structure ConfigValid (bs : List Byte) : Prop where
  reserved : ∀ i ∈ [18, 19, 21, 24, 25, 26, 27, 28, 29, 30, 31], byteAt bs i = 0
  cmdBase : (u64At bs 0).toNat % 64 = 0
  cmdSize : 4 ≤ (byteAt bs 16).toNat ∧ (byteAt bs 16).toNat ≤ 12
  cplBase : (u64At bs 8).toNat % 32 = 0
  cplSize : 5 ≤ (byteAt bs 17).toNat ∧ (byteAt bs 17).toNat ≤ 16
  cmdEnd : (u64At bs 0).toNat + 2 ^ (byteAt bs 16).toNat * 64 ≤ 2 ^ 64
  cplEnd : (u64At bs 8).toNat + 2 ^ (byteAt bs 17).toNat * 32 ≤ 2 ^ 64
  apart : (u64At bs 0).toNat + 2 ^ (byteAt bs 16).toNat * 64 ≤ (u64At bs 8).toNat
    ∨ (u64At bs 8).toNat + 2 ^ (byteAt bs 17).toNat * 32 ≤ (u64At bs 0).toNat
  count : 1 ≤ (byteAt bs 20).toNat

/-- The lowest-numbered free entry of the outstanding table (R128). -/
abbrev Port.FirstFree (p : Port) (tag : TagId) : Prop := p.entry tag = none ∧ ∀ k, k < tag → p.entry k ≠ none

/-- The port once a transaction of a data class has its entry: the channel's count is one higher, the class's pointer is at the
channel, and its request waits no longer (R127, R128). -/
def Port.dataGranted (p : Port) (tag : TagId) (pr : Priority) (c : ChanId) (t : Transaction) : Port :=
  let q := { p with table := p.table.set tag.val (some t), dataCount := p.dataCount.set c.val (p.dataCount[c.val] + 1) }
  match pr with
  | .urgent => { q with wait1 := q.wait1.set c.val false, ptr1 := c }
  | .normal => { q with wait2 := q.wait2.set c.val false, ptr2 := c }

/-- In round robin after the pointer, `c` is the first channel with the property (R112, R127). -/
abbrev FirstAfter (pointer : ChanId) (P : ChanId → Prop) (c : ChanId) : Prop :=
  P c ∧ ∀ d, P d → (c - (pointer + 1)).val ≤ (d - (pointer + 1)).val

/-- A transaction of the channel's data request `id` (R124). -/
def Transaction.OfRequest (t : Transaction) (c : ChanId) (id : Nat) : Prop :=
  t.channel = some c ∧ t.cls ≠ 3 ∧ ∃ lane, t.ref = .data id lane

/-- The requests of a channel, with one of them set apart by its number. -/
abbrev Channel.Splits (ch : Channel) (before : List DataRequest) (q : DataRequest) (after : List DataRequest) : Prop :=
  ch.requests = before ++ q :: after ∧ ∀ x ∈ before ++ after, x.id ≠ q.id

/-- The records of a channel, with one of them set apart by its ring index. -/
abbrev Channel.Holds (ch : Channel) (older : List BufferRecord) (r : BufferRecord) (newer : List BufferRecord) : Prop :=
  ch.list = older ++ r :: newer ∧ ∀ x ∈ older ++ newer, x.ring ≠ r.ring

/-- The channel is named in the active bank of a LOCKED link. -/
abbrev State.OnLockedLink (s : State) (c : ChanId) : Prop :=
  ∃ l, (s.link l).state = .locked ∧ (s.map l).active.names c = true

/-- The lane check of R33 fails at the slot: the halves that name the channel, in ascending slot order, are as expected up to a
half at this slot, whose lane is not the expected one, or which stands beyond the last lane, or is the last of too few. -/
def LanesFailAt (halves : List (SlotId × Fin 8)) (n : Nat) (slot : SlotId) : Prop :=
  ∃ i lane, halves[i]? = some (slot, lane) ∧ (∀ j x, j < i → halves[j]? = some x → x.2.val = j ∧ j < n)
    ∧ (lane.val ≠ i ∨ n ≤ i ∨ (i + 1 = halves.length ∧ i + 1 < n))

/-- A link forced OFF (R5, R19): TXD undriven, no missed boundary, the held record at link state OFF; the configuration and the
frame counter are kept. -/
def Link.forcedOff (l : Link) : Link :=
  match l.state with
  | .off => l
  | .hunting | .locked =>
    { l with state := .off, missed := 0, bitPos := none, txd := none,
             event := l.event.map fun e => { e with linkState := .off } }

/-- Every link that is not OFF is forced OFF, and the channels of each LOCKED one take the link-down notice (R16, R19). -/
def State.linksForcedOff (s : State) : State :=
  (List.finRange 8).foldl (fun u l =>
    let v := u.setLink l (s.link l).forcedOff
    if (s.link l).state = .locked then v.notify (s.map l).active Channel.linkDown else v) s

/-! ## A channel with nothing left to settle -/

/-- Channel `c` takes the value `ch`, and its requests are presented anew, but while RESETTING; nothing else changes. -/
def State.put (s : State) (c : ChanId) (ch : Channel) : State :=
  if s.device.state = .resetting then { s with chans := s.chans.set c.val ch }
  else ({ s with chans := s.chans.set c.val ch } : State).present c

/-- Nothing of the channel waits to be settled: no request stands with every transaction answered and none to come, no record
stands finished without being RETIRING, no ended pass stands complete, the oldest record has something left to do, and the
consumed index is the one of R92. -/
structure Channel.Settled (ch : Channel) : Prop where
  requests : ∀ q ∈ ch.requests, q.over = false
  records : ∀ r ∈ ch.list, ch.finished r = false
  passes : ∀ r ∈ ch.list, ∀ p ∈ r.ended, r.passDone ch.cfg.dir p = false
  oldest : ∀ r, ch.list.head? = some r → r.gone = false
  consumed : ch.consumed = consumedIndex ch.list ch.fetch

/-- The channel is named in the active bank of a link, or in the standby bank of a link with a swap pending (R38). -/
abbrev State.Named (s : State) (c : ChanId) : Prop :=
  ∃ l, (s.map l).active.names c = true ∨ ((s.map l).swapPending = true ∧ (s.map l).standby.names c = true)

/-! ## Laws of the part -/

/-- No request of the channel stands with every one of its transactions answered and none to come (R73, R78). -/
def Channel.Quiet (ch : Channel) : Prop := ∀ q ∈ ch.requests, q.over = false

/-- Every channel is Quiet. -/
def State.Quiet (s : State) : Prop := ∀ c, (s.chan c).Quiet

/-- The entries of the outstanding table that hold a transaction of the channel, a descriptor read or a data
transaction. -/
def Port.entriesOf (p : Port) (c : ChanId) (desc : Bool) : Nat :=
  ((List.finRange 16).filter fun t =>
    match p.entry t with
    | some x => x.channel == some c && (x.cls == 3) == desc
    | none => false).length

/-- The counts of R124 are the entries in use, and stay within the limits of R126. -/
def State.PortLaw (s : State) : Prop :=
  ∀ c, s.port.data c = s.port.entriesOf c false ∧ s.port.desc c = s.port.entriesOf c true
    ∧ s.port.data c ≤ dataLimit ∧ s.port.desc c ≤ descLimit

/-- What R4, R5, R10, R14 and R18 say of a link at every moment: a link that is not OFF is configured; an OFF link has no
missed boundary; TXD is driven and a bit position held in LOCKED alone; the missed-sync count is at most 2; a held
record shows the link's state; what a link is configured with is in range (R3). A LOCKED link stands in the slot launched last, or
at bit 0 before the first launch (R6, R13): each slot is launched before it completes; the slot launched last has completed
only at its last bit, and the one before it has not completed only at the first bit of it. -/
structure Link.Law (l : Link) : Prop where
  configured : l.state ≠ .off → l.config.isSome
  range : ∀ cfg, l.config = some cfg → 4 ≤ cfg.slots ∧ cfg.slots ≤ 128 ∧ (cfg.width = 8 ∨ cfg.width = 16)
  offMissed : l.state = .off → l.missed = 0
  quiet : l.state ≠ .locked → l.txd = none ∧ l.bitPos = none
  place : ∀ cfg, l.state = .locked → l.config = some cfg → ∃ p, l.bitPos = some p
    ∧ l.completed ≤ l.launched ∧ l.launched ≤ cfg.slots
    ∧ (l.launched = 0 → p = 0)
    ∧ (0 < l.launched → (l.launched - 1) * cfg.width ≤ p ∧ p < l.launched * cfg.width)
    ∧ (0 < l.launched → l.completed = l.launched → p + 1 = l.launched * cfg.width)
    ∧ (l.completed + 1 < l.launched → l.launched = l.completed + 2 ∧ p = (l.launched - 1) * cfg.width)
  missed : l.missed ≤ missedSyncLimit
  event : ∀ e, l.event = some e → e.linkState = l.state ∧ e.slips ≤ countLimit ∧ e.losses ≤ countLimit

/-- Every link keeps its law, and a swap is pending only on a LOCKED link while the device is neither FAULTED nor RESETTING
(R20). -/
def State.LinkLaw (s : State) : Prop :=
  ∀ l, (s.link l).Law
    ∧ ((s.map l).swapPending → (s.map l).swapTag.isSome)
    ∧ ((s.map l).swapPending → s.device.state ≠ .faulted → s.device.state ≠ .resetting → (s.link l).state = .locked)

/-- An enabled window is whole 4 KiB pages; a disabled one holds its reset values and no permission (R135, R141). -/
structure Window.Law (w : Window) : Prop where
  enabled : w.enabled → w.base.toNat % 4096 = 0 ∧ (w.limit.toNat + 1) % 4096 = 0 ∧ w.base.toNat ≤ w.limit.toNat
  disabled : w.enabled = false → w.base = 0 ∧ w.limit = 0 ∧ w.read = false ∧ w.write = false

def State.WindowLaw (s : State) : Prop := ∀ w, (s.window w).Law

/-- A set completion queue has a size of 32 to 65536 that is a power of two, and PHASE is the one of the next entry (R103,
R105). -/
def State.PhaseLaw (s : State) : Prop :=
  ∀ q, s.writer.queue = some q →
    (∃ k, 5 ≤ k ∧ k ≤ 16 ∧ q.size = 2 ^ k) ∧ s.writer.phase = decide (s.writer.writeIndex.toNat / q.size % 2 = 0)

/-- The coalescer's thresholds are in range, its counter stands below N, its timer runs whenever the counter is above 0 (but
for a soft reset, which stops it), and has not reached a T that is not 0 (R117, R118, R166). -/
structure State.CoalescerLaw (s : State) : Prop where
  count : 1 ≤ s.coal.count ∧ s.coal.count ≤ 255
  time : s.coal.time ≤ 65535
  below : s.coal.counter < s.coal.count
  timer : s.device.state ≠ .resetting → (s.coal.timer.isSome ↔ 0 < s.coal.counter)
  elapsed : ∀ e, s.coal.timer = some e → s.coal.time ≠ 0 → e < s.coal.time

/-- The configuration address is a multiple of 32, and so is a load address (R158, R161). -/
def State.AddressLaw (s : State) : Prop :=
  s.device.configAddr.toNat % 32 = 0 ∧ ∀ a, s.device.loadAddr = some a → a.toNat % 32 = 0

/-- No staging FIFO holds more than 32 samples (R63), and no buffer list more than 3 records, one being on its way while a
descriptor read that is not absorbed is outstanding (R83, R92). -/
def State.RoomLaw (s : State) : Prop :=
  ∀ c, (s.chan c).groups.length * (s.chan c).cfg.lanes ≤ fifoSamples
    ∧ (s.chan c).list.length + (if (s.chan c).descRead = .outstanding then 1 else 0) ≤ heldRecords

/-- The holders of references to a window (R138): the rings of channels that are not CLOSED, the buffer records, and the list
transfer. -/
def State.holders (s : State) (w : WinId) : Nat :=
  ((List.finRange 64).filter fun c => (s.chan c).state != .closed && (s.chan c).ringWindow == some w).length
    + ((List.finRange 64).map fun c => ((s.chan c).list.filter fun r => r.window == some w).length).sum
    + (match s.transfer with
      | some t => if t.window = w then 1 else 0
      | none => 0)

/-- Every use count is the number of its window's holders (R135, R138, R139); a RETIRING record holds no window; a CLOSED channel
holds no record and no descriptor read; a list transfer belongs to a command in TAKING or caught by a fault, and
none exists in OFF and LOADING. -/
structure State.UseLaw (s : State) : Prop where
  use : ∀ w, (s.window w).use = s.holders w
  retiring : ∀ c, ∀ r ∈ (s.chan c).list, r.state = .retiring → r.window = none
  closed : ∀ c, (s.chan c).state = .closed → (s.chan c).list = [] ∧ (s.chan c).descRead = .none
  transfer : s.transfer.isSome → s.cmd.state = .taking ∨ s.cmd.state = .stopped
  unloaded : s.device.state = .off ∨ s.device.state = .loading → s.transfer = none

end Sys2Proof.Machine
end

