-- ==== Sys2Proof/Certificates/Slice0/Obligations.lean ====
section
/-! DEFINITION. The statements for the provers. Each docstring names the rules of spec/ it formalises. -/

open Sys2Proof Sys2Proof.Machine

/-! ## Steps and resets -/

/-- A step runs the command at the front of the queue; on an empty queue the next bit clock of a link comes, of which
BitClockMovesTheLink says what it does, and with none to come the block idles, as a link without BCK stays where it is (R6). The
queue and the list of bit clocks to come are the model's own (assumption log 1: the model's choice). -/
def Obligations.StepRunsFrontCommand : Prop :=
  (∀ (c : Instr) (rest : List Instr) (s : State), s.pending = c :: rest → step s = exec c { s with pending := rest })
  ∧ (∀ (b : BitClock) (rest : List BitClock) (s : State), s.pending = [] → s.clocks = b :: rest →
      step s = .next (({ s with clocks := rest } : State).bitClock b))
  ∧ ∀ s : State, s.pending = [] → s.clocks = [] → step s = .next s

/-- Where a record in hand waits in WAIT_SPACE and its reservation would be granted at once (a place of the pending list free,
fewer than 24 reservations held, no link event record and no device event record waiting before it: R110, R111, R149), the
row of its kind runs as if the reservation had been granted before it (assumption log 3: the model grants it in the same step). -/
def Obligations.CommandTakesReservationFirst : Prop :=
  ∀ (s : State) (r : List Byte), s.device.state = .running → s.cmd.state = .waitSpace → s.cmd.inHand = some r →
    s.transfer = none → s.Grantable →
    (∀ c k, (c, k) ∈ commandRows → byteAt r 0 = k.code → exec c s = exec c s.granted)
    ∧ ((byteAt r 0 = 0 ∨ 0x0E < (byteAt r 0).toNat) → exec .unknownCommand s = exec .unknownCommand s.granted)

/-- With no command in hand, outside RUNNING, or with a record of another kind in hand, a row of the command queue changes
nothing (assumption log 2: the model's choice for an event whose conditions do not hold).

A link event offered where its conditions do not hold changes nothing: a boundary event away from the last bit of the frame or
before its last slot has completed, a slip at the last bit or before the launch of slot 0, and a slot event that is out of order, repeated, or of an abandoned slot or a past
frame (assumption log 2: the model's choice; the order of the slot events is R13's). -/
def Obligations.EventsNeedTheirConditions : Prop :=
  (
  ∀ (s : State) (c : Instr) (k : CmdKind), (c, k) ∈ commandRows →
    (s.cmd.inHand = none ∨ s.device.state ≠ .running ∨ ∃ r, s.cmd.inHand = some r ∧ byteAt r 0 ≠ k.code) →
    exec c s = .next s)
  ∧
  (
  ∀ (s : State) (l : LinkId), let role := (s.link l).config.map LinkConfig.role
    let locked := fun r => (s.link l).state = .locked ∧ role = some r
    let lastBit := ∃ cfg, (s.link l).config = some cfg ∧ (s.link l).bitPos = some (cfg.slots * cfg.width - 1)
    let ended := ∃ cfg, (s.link l).config = some cfg ∧ (s.link l).bitPos = some (cfg.slots * cfg.width - 1)
      ∧ (s.link l).completed = cfg.slots
    let inFrame := fun slot : SlotId => (s.link l).state = .locked ∧ ∃ cfg, (s.link l).config = some cfg ∧ slot.val < cfg.slots
    (¬ ((s.link l).state = .hunting ∧ role = some .roleIn) → exec (.syncPulseLock l) s = .next s)
    ∧ (¬ (locked .roleIn ∧ ended) →
        exec (.syncOnTime l) s = .next s ∧ exec (.freewheel l) s = .next s ∧ exec (.linkLoss l) s = .next s)
    ∧ (¬ locked .roleIn ∨ lastBit ∨ (s.link l).launched = 0 → exec (.slip l) s = .next s)
    ∧ ((s.link l).missed ≠ 0 → exec (.freewheel l) s = .next s)
    ∧ ((s.link l).missed ≠ 1 → exec (.linkLoss l) s = .next s)
    ∧ (¬ (locked .roleOut ∧ ended) → exec (.frameBoundaryOut l) s = .next s)
    ∧ ∀ slot : SlotId,
        (¬ inFrame slot ∨ (s.link l).launched ≠ slot.val ∨ (s.link l).completed + 1 < slot.val →
          exec (.transmitSlotLaunch l slot) s = .next s)
        ∧ (¬ inFrame slot ∨ (s.link l).completed ≠ slot.val ∨ (s.link l).launched ≤ slot.val →
          ∀ x, exec (.receiveSlotComplete l slot x) s = .next s))

/-! ## Link commands -/

/-- CONFIGURE_LINK in the order of R3. -/
def Obligations.ConfigureLinkChecksAndStores : Prop :=
  ∀ (s : State) (r : List Byte), s.Taking r → byteAt r 0 = 2 →
    (8 ≤ (byteAt r 16).toNat →
      exec .configureLink s = .next (s.doneWith (doneReport 2 (u32At r 4) .badParam (byteAt r 16) 0)))
    ∧ ∀ l : LinkId, (byteAt r 16).toNat = l.val →
      let report := fun st => doneReport 2 (u32At r 4) st (byteAt r 16) (s.link l).frame
      let good := (4 ≤ (byteAt r 17).toNat ∧ (byteAt r 17).toNat ≤ 128) ∧ (byteAt r 18 = 8 ∨ byteAt r 18 = 16)
        ∧ (byteAt r 19).toNat ≤ 1 ∧ (byteAt r 20).toNat ≤ 1
        ∧ ReservedZero r [0, 4, 5, 6, 7, 16, 17, 18, 19, 20, 22, 23]
      ((s.link l).state ≠ .off → exec .configureLink s = .next (s.doneWith (report .linkActive)))
      ∧ ((s.link l).state = .off → ¬ good → exec .configureLink s = .next (s.doneWith (report .badParam)))
      ∧ ((s.link l).state = .off → good →
          exec .configureLink s = .next (({ s with
            links := s.links.set l.val { s.link l with
              config := some { slots := (byteAt r 17).toNat, width := (byteAt r 18).toNat,
                               role := if byteAt r 19 = 0 then .roleIn else .roleOut,
                               idleMode := if byteAt r 20 = 0 then .drive else .release, idleValue := u16At r 22 } }
            maps := s.maps.set l.val { s.map l with
              active := Vector.replicate 128 { rx := none, tx := none }
              standby := Vector.replicate 128 { rx := none, tx := none } } } : State).doneWith (report .ok)))

/-- START_LINK in the order of R4: HUNTING for role IN, LOCKED in frame 1 with a LOCKED event for role OUT. -/
def Obligations.StartLinkHuntsOrLocks : Prop :=
  ∀ (s : State) (r : List Byte), s.Taking r → byteAt r 0 = 3 →
    (8 ≤ (byteAt r 16).toNat →
      exec .startLink s = .next (s.doneWith (doneReport 3 (u32At r 4) .badParam (byteAt r 16) 0)))
    ∧ ∀ l : LinkId, (byteAt r 16).toNat = l.val →
      let report := fun st stamp => doneReport 3 (u32At r 4) st (byteAt r 16) stamp
      let frame := (s.link l).frame
      (¬ ReservedZero r [0, 4, 5, 6, 7, 16] → exec .startLink s = .next (s.doneWith (report .badParam frame)))
      ∧ (ReservedZero r [0, 4, 5, 6, 7, 16] →
        ((s.link l).state ≠ .off → exec .startLink s = .next (s.doneWith (report .linkActive frame)))
        ∧ ((s.link l).state = .off → (s.link l).config = none →
            exec .startLink s = .next (s.doneWith (report .notConfigured frame)))
        ∧ ∀ cfg, (s.link l).state = .off → (s.link l).config = some cfg →
          (cfg.role = .roleIn →
            exec .startLink s = .next (({ s with links := s.links.set l.val { s.link l with
              state := .hunting, frame := 0, missed := 0, event := none } } : State).doneWith (report .ok 0)))
          ∧ (cfg.role = .roleOut →
            exec .startLink s = .next (({ s with links := s.links.set l.val { s.link l with
              state := .locked, frame := 1, missed := 0, bitPos := some 0, launched := 0, completed := 0,
              event := some { locked := true, lost := false, slip := false, slips := 0, losses := 0,
                              linkState := .locked, stamp := 1 } } } : State).doneWith (report .ok 1))))

/-- STOP_LINK refused, and STOP_LINK from HUNTING (R5): the link enters OFF and keeps its frame counter.

STOP_LINK on a LOCKED link (R5, R15, R16): a pending swap is performed first, with cause STOP, then the link is OFF, then
the link-down notice goes to the channels named in the bank that was active until then, and the COMMAND_DONE of the stop
is formed last. That the performance clears the tag held with the swap is the model's choice (assumption log 31). -/
def Obligations.StopLinkOutcomes : Prop :=
  (
  ∀ (s : State) (r : List Byte), s.Taking r → byteAt r 0 = 4 →
    (8 ≤ (byteAt r 16).toNat →
      exec .stopLink s = .next (s.doneWith (doneReport 4 (u32At r 4) .badParam (byteAt r 16) 0)))
    ∧ ∀ l : LinkId, (byteAt r 16).toNat = l.val →
      let report := fun st => doneReport 4 (u32At r 4) st (byteAt r 16) (s.link l).frame
      (¬ ReservedZero r [0, 4, 5, 6, 7, 16] → exec .stopLink s = .next (s.doneWith (report .badParam)))
      ∧ (ReservedZero r [0, 4, 5, 6, 7, 16] →
        ((s.link l).state = .off → exec .stopLink s = .next (s.doneWith (report .linkOff)))
        ∧ ((s.link l).state = .hunting →
            exec .stopLink s = .next (({ s with links := s.links.set l.val { s.link l with
              state := .off, missed := 0, bitPos := none, txd := none,
              event := (s.link l).event.map fun e => { e with linkState := .off } } } : State).doneWith (report .ok)))))
  ∧
  (
  ∀ (s : State) (r : List Byte) (l : LinkId), s.Taking r → byteAt r 0 = 4 → (byteAt r 16).toNat = l.val →
    ReservedZero r [0, 4, 5, 6, 7, 16] → (s.link l).state = .locked →
    let off := { s.link l with
      state := .off, missed := 0, bitPos := none, txd := none,
      event := (s.link l).event.map fun e => { e with linkState := .off } }
    let report := doneReport 4 (u32At r 4) .ok (byteAt r 16) (s.link l).frame
    let stopped := fun (u : State) => (u.setLink l off).notify (s.map l).active Channel.linkDown
    ((s.map l).swapPending = false → exec .stopLink s = .next ((stopped s).doneWith report))
    ∧ ∀ tag, (s.map l).swapPending = true → (s.map l).swapTag = some tag →
      exec .stopLink s = .next ((stopped (s.exchanged l tag 4)).doneWith report))

/-! ## Slot map commands -/

/-- The shared checks of R23 for the four map commands, each with its own parameters (R24, R29, R31). -/
def Obligations.MapCommandsSharedRefusals : Prop :=
  ∀ (s : State) (r : List Byte) (c : Instr) (kind : BitVec 4) (used : List Nat) (own : Prop), s.Taking r →
    (c, kind, used, own) ∈
      [(Instr.writeSlotMap, 5, [0, 4, 5, 6, 7, 16, 18, 19, 24, 25, 26, 27, 28, 29, 30, 31],
          (1 ≤ (u16At r 18).toNat ∧ (u16At r 18).toNat ≤ 128) ∧ (u64At r 24).toNat % 4 = 0),
       (Instr.copySlotMap, 6, [0, 4, 5, 6, 7, 16], True),
       (Instr.readSlotMap, 7, [0, 4, 5, 6, 7, 16, 17, 24, 25, 26, 27, 28, 29, 30, 31],
          (byteAt r 17).toNat ≤ 1 ∧ (u64At r 24).toNat % 4 = 0),
       (Instr.swapSlotMap, 8, [0, 4, 5, 6, 7, 16], True)] →
    byteAt r 0 = kind.setWidth 8 →
    (8 ≤ (byteAt r 16).toNat →
      exec c s = .next (s.doneWith (doneReport kind (u32At r 4) .badParam (byteAt r 16) 0)))
    ∧ ∀ l : LinkId, (byteAt r 16).toNat = l.val →
      let report := fun st => doneReport kind (u32At r 4) st (byteAt r 16) (s.link l).frame
      (¬ (ReservedZero r used ∧ own) → exec c s = .next (s.doneWith (report .badParam)))
      ∧ (ReservedZero r used ∧ own → (s.map l).swapPending = true → exec c s = .next (s.doneWith (report .busy)))

/-- WRITE_SLOT_MAP past the shared checks (R24, R25, R138): without a window, WINDOW_FAULT; else the lowest window takes a
reference, every piece is asked for in ascending order, and the command stays at its take.

READ_SLOT_MAP past the shared checks (R29, R30, R138): as WRITE_SLOT_MAP, for 512 bytes and WRITE; the copy is of the
bank chosen by its role. -/
def Obligations.SlotMapListTransfersBegin : Prop :=
  (
  ∀ (s : State) (r : List Byte) (l : LinkId), s.Taking r → byteAt r 0 = 5 → (byteAt r 16).toNat = l.val →
    ReservedZero r [0, 4, 5, 6, 7, 16, 18, 19, 24, 25, 26, 27, 28, 29, 30, 31] →
    1 ≤ (u16At r 18).toNat → (u16At r 18).toNat ≤ 128 → (u64At r 24).toNat % 4 = 0 → (s.map l).swapPending = false →
    let start := (u64At r 24).toNat
    let length := (u16At r 18).toNat * 4
    (s.PicksNone start length .read →
      exec .writeSlotMap s = .next (s.doneWith
        (doneReport 5 (u32At r 4) .windowFault (byteAt r 16) (s.link l).frame)))
    ∧ ∀ w, s.Picks start length .read w →
      exec .writeSlotMap s = .next { s with
        windows := s.windows.set w.val (s.window w).claimed
        transfer := some { link := l, dir := .readList, window := w, tag := u32At r 4, base := u64At r 24,
                           pieces := piecesOf start length, issued := 0, answered := 0, held := [], copy := [],
                           error := false, stopped := false }
        port := { s.port with
          wait4 := s.port.wait4 ++ (List.range (piecesOf start length).length).map Class4.listPiece } })
  ∧
  (
  ∀ (s : State) (r : List Byte) (l : LinkId), s.Taking r → byteAt r 0 = 7 → (byteAt r 16).toNat = l.val →
    ReservedZero r [0, 4, 5, 6, 7, 16, 17, 24, 25, 26, 27, 28, 29, 30, 31] →
    (byteAt r 17).toNat ≤ 1 → (u64At r 24).toNat % 4 = 0 → (s.map l).swapPending = false →
    let start := (u64At r 24).toNat
    let bank := if byteAt r 17 = 0 then (s.map l).active else (s.map l).standby
    (s.PicksNone start 512 .write →
      exec .readSlotMap s = .next (s.doneWith
        (doneReport 7 (u32At r 4) .windowFault (byteAt r 16) (s.link l).frame)))
    ∧ ∀ w, s.Picks start 512 .write w →
      exec .readSlotMap s = .next { s with
        windows := s.windows.set w.val (s.window w).claimed
        transfer := some { link := l, dir := .writeCopy, window := w, tag := u32At r 4, base := u64At r 24,
                           pieces := piecesOf start 512, issued := 0, answered := 0, held := [], copy := bank.bytes,
                           error := false, stopped := false }
        port := { s.port with
          wait4 := s.port.wait4 ++ (List.range (piecesOf start 512).length).map Class4.listPiece } })

/-- COPY_SLOT_MAP past the shared checks: the standby bank becomes equal to the active bank (R28).

SWAP_SLOT_MAP past the shared checks (R31, R34 to R36): NOT_CONFIGURED; MAP_INVALID with the failure; an exchange at
once on an OFF or HUNTING link, with cause TAKE; a pending swap on a LOCKED one. That an exchange leaves no tag held is the
model's choice (assumption log 31). -/
def Obligations.CopyAndSwapSlotMapOutcomes : Prop :=
  (
  ∀ (s : State) (r : List Byte) (l : LinkId), s.Taking r → byteAt r 0 = 6 → (byteAt r 16).toNat = l.val →
    ReservedZero r [0, 4, 5, 6, 7, 16] → (s.map l).swapPending = false →
    exec .copySlotMap s = .next (({ s with
      maps := s.maps.set l.val { s.map l with standby := (s.map l).active } } : State).doneWith
        (doneReport 6 (u32At r 4) .ok (byteAt r 16) (s.link l).frame)))
  ∧
  (
  ∀ (s : State) (r : List Byte) (l : LinkId), s.Taking r → byteAt r 0 = 8 → (byteAt r 16).toNat = l.val →
    ReservedZero r [0, 4, 5, 6, 7, 16] → (s.map l).swapPending = false →
    let report := fun st => doneReport 8 (u32At r 4) st (byteAt r 16) (s.link l).frame
    ((s.link l).config = none → exec .swapSlotMap s = .next (s.doneWith (report .notConfigured)))
    ∧ ∀ cfg, (s.link l).config = some cfg →
      (∀ f, s.mapFailure l cfg = some f →
        exec .swapSlotMap s = .next (s.doneWith { report .mapInvalid with
          v0 := BitVec.ofNat 32 f.slot.val, v1 := BitVec.ofNat 32 f.reason.code,
          v2 := if f.dir = .rx then 0 else 1, v3 := BitVec.ofNat 32 f.chan.val }))
      ∧ (s.mapFailure l cfg = none →
        ((s.link l).state ≠ .locked →
          exec .swapSlotMap s = .next (s.exchanged l (u32At r 4) 1).leftCommand)
        ∧ ((s.link l).state = .locked →
          exec .swapSlotMap s = .next ({ s with
            maps := s.maps.set l.val { s.map l with swapPending := true, swapTag := some (u32At r 4) } } :
              State).leftCommand)))

/-- The pieces of a list transfer (R25): they cover the range without gap or overlap, each lies in one aligned 64-byte block,
each but the last ends at a block boundary, and a list of at most 512 bytes has at most 9. -/
def Obligations.ListPiecesCutAtBlocks : Prop :=
  ∀ base length : Nat, 1 ≤ length → length ≤ 512 → base % 4 = 0 →
    let ps := piecesOf base length
    ps.length ≤ 9
    ∧ (ps.map Prod.snd).sum = length
    ∧ (∀ i (h : i < ps.length), ps[i].1 = ((ps.take i).map Prod.snd).sum
        ∧ 1 ≤ ps[i].2 ∧ (base + ps[i].1) / 64 = (base + ps[i].1 + ps[i].2 - 1) / 64
        ∧ (i + 1 < ps.length → (base + ps[i].1 + ps[i].2) % 64 = 0))

/-- The copy that READ_SLOT_MAP writes is a valid list for WRITE_SLOT_MAP, whatever bank it is applied to, and restores the
bank it came from, all 128 slots (R171); its word at 4 bytes a slot is that slot's entry (R29). -/
def Obligations.ReadBackListRestoresBank : Prop :=
  ∀ b old : Bank, b.bytes.length = 512
    ∧ (∀ i : SlotId, listEntryOf (u32At b.bytes (i.val * 4)) = some (i, b[i.val]))
    ∧ firstBad (wordsOf b.bytes) = none ∧ old.apply (wordsOf b.bytes) = b

/-- The law of the map (R32, R33): a standby bank is valid exactly when every present half lies below S, names an open channel
of its direction and width that is named on no other link, and the halves of each named channel, in ascending slot order,
name the lanes 0 to n - 1, each once. -/
def Obligations.ValidBankNamesEachLaneOnce : Prop :=
  ∀ (s : State) (l : LinkId) (cfg : LinkConfig),
    s.mapFailure l cfg = none ↔
      ∀ (slot : SlotId) (d : Direction) (h : Half), (s.map l).standby[slot.val].half d = some h →
        slot.val < cfg.slots ∧ (s.chan h.chan).isOpen = true ∧ (s.chan h.chan).cfg.dir = d
        ∧ (s.chan h.chan).cfg.width = cfg.width
        ∧ (((s.map l).standby.lanesOf d h.chan).map fun x => x.2.val) = List.range (s.chan h.chan).cfg.lanes
        ∧ ∀ k, k ≠ l → (s.map k).active.names h.chan = false
            ∧ ((s.map k).swapPending = true → (s.map k).standby.names h.chan = false)

/-- A half fails the first check of R32, in its order, that it does not meet, the lane check by R33. A MAP_INVALID names the lowest
slot at which a half fails, there the reason that comes first in that order, and the receive half first for the same reason
(R34). -/
def Obligations.MapInvalidNamesFirstFailure : Prop :=
  (
  ∀ (s : State) (l : LinkId) (cfg : LinkConfig) (slot : SlotId) (d : Direction) (h : Half),
    let ch := s.chan h.chan
    let isOpen := ch.state = .starved ∨ ch.state = .active ∨ ch.state = .halted
    let lanes := LanesFailAt ((s.map l).standby.lanesOf d h.chan) ch.cfg.lanes slot
    let elsewhere := ∃ k, k ≠ l ∧ ((s.map k).active.names h.chan = true
      ∨ ((s.map k).swapPending = true ∧ (s.map k).standby.names h.chan = true))
    let fault := fun x => s.halfFault l cfg slot d h = x
    (cfg.slots ≤ slot.val → fault (some .slotRange))
    ∧ (slot.val < cfg.slots →
      (¬ isOpen → fault (some .channelNotOpen))
      ∧ (isOpen → ch.cfg.dir ≠ d → fault (some .direction))
      ∧ (isOpen → ch.cfg.dir = d →
        (ch.cfg.width ≠ cfg.width → fault (some .width))
        ∧ (ch.cfg.width = cfg.width → lanes → fault (some .lanes))
        ∧ (ch.cfg.width = cfg.width → ¬ lanes → elsewhere → fault (some .otherLink))
        ∧ (ch.cfg.width = cfg.width → ¬ lanes → ¬ elsewhere → fault none))))
  ∧
  ∀ (s : State) (l : LinkId) (cfg : LinkConfig) (f : MapFailure), s.mapFailure l cfg = some f →
    (∃ h, (s.map l).standby[f.slot.val].half f.dir = some h ∧ h.chan = f.chan
      ∧ s.halfFault l cfg f.slot f.dir h = some f.reason)
    ∧ (∀ (slot : SlotId) (d : Direction) (h : Half), slot < f.slot → (s.map l).standby[slot.val].half d = some h →
        s.halfFault l cfg slot d h = none)
    ∧ ∀ (d : Direction) (h : Half) (why : MapReason), (s.map l).standby[f.slot.val].half d = some h →
        s.halfFault l cfg f.slot d h = some why →
        f.reason.code ≤ why.code ∧ (f.reason.code = why.code → d = .rx → f.dir = .rx)

/-! ## Channel commands -/

/-- OPEN_CHANNEL in the order of R45, and what it makes ready (R46): the lowest window that covers the ring and grants READ
takes a reference, the configuration is stored, and everything the part holds for the channel starts afresh. -/
def Obligations.OpenChannelChecksAndMakesReady : Prop :=
  ∀ (s : State) (r : List Byte), s.Taking r → byteAt r 0 = 9 →
    let report := fun st => doneReport 9 (u32At r 4) st (byteAt r 16) 0
    (64 ≤ (byteAt r 16).toNat → exec .openChannel s = .next (s.doneWith (report .badParam)))
    ∧ ∀ c : ChanId, (byteAt r 16).toNat = c.val →
      let clean := ReservedZero r
        [0, 4, 5, 6, 7, 16, 17, 18, 19, 20, 21, 22, 24, 25, 26, 27, 32, 33, 34, 35, 36, 37, 38, 39]
      let lanes := (byteAt r 19).toNat
      let threshold := (byteAt r 22).toNat
      let size := (u16At r 24).toNat
      let good := (byteAt r 17).toNat ≤ 1 ∧ (byteAt r 18 = 8 ∨ byteAt r 18 = 16) ∧ (1 ≤ lanes ∧ lanes ≤ 8)
        ∧ (byteAt r 20).toNat ≤ 1 ∧ (byteAt r 21).toNat ≤ 1 ∧ threshold ∈ [1, 2, 4, 8] ∧ threshold * lanes ≤ 24
        ∧ (u64At r 32).toNat % 16 = 0 ∧ ∃ k, 3 ≤ k ∧ k ≤ 10 ∧ size = 2 ^ k
      (¬ clean → exec .openChannel s = .next (s.doneWith (report .badParam)))
      ∧ (clean →
        ((s.chan c).state = .closing → exec .openChannel s = .next (s.doneWith (report .busy)))
        ∧ ((s.chan c).state = .starved ∨ (s.chan c).state = .active ∨ (s.chan c).state = .halted →
            exec .openChannel s = .next (s.doneWith (report .alreadyOpen)))
        ∧ ((s.chan c).state = .closed →
          (¬ good → exec .openChannel s = .next (s.doneWith (report .badParam)))
          ∧ (good → s.Named c → exec .openChannel s = .next (s.doneWith (report .stillMapped)))
          ∧ (good → ¬ s.Named c → s.PicksNone (u64At r 32).toNat (size * 16) .read →
              exec .openChannel s = .next (s.doneWith (report .windowFault)))
          ∧ ∀ w, good → ¬ s.Named c → s.Picks (u64At r 32).toNat (size * 16) .read w →
              exec .openChannel s = .next (({ s with
                windows := s.windows.set w.val (s.window w).claimed
                chans := s.chans.set c.val
                  { state := .starved, ringWindow := some w, haltCause := none, closeRec := none,
                    config := some
                      { dir := if byteAt r 17 = 0 then .rx else .tx, width := (byteAt r 18).toNat, lanes := lanes,
                        layout := if byteAt r 20 = 0 then .interleaved else .planar,
                        priority := if byteAt r 21 = 0 then .normal else .urgent, threshold := threshold,
                        ringBase := u64At r 32, ringSize := size,
                        idleValue := if byteAt r 17 = 0 then none else some (u16At r 26) }
                    moved := 0, lost := 0, discarded := 0, buffersDone := 0, groups := [], idleFrame := none,
                    gapMark := false, producer := 0, fetch := 0, consumed := 0, descRead := .none, list := [],
                    requests := [] } } : State).doneWith { report .ok with v0 := BitVec.ofNat 32 w.val })))

/-- CLOSE_CHANNEL refused, in the order of R48. -/
def Obligations.CloseChannelRefusedInOrder : Prop :=
  ∀ (s : State) (r : List Byte), s.Taking r → byteAt r 0 = 0xA →
    let report := fun st => doneReport 0xA (u32At r 4) st (byteAt r 16) 0
    (64 ≤ (byteAt r 16).toNat → exec .closeChannel s = .next (s.doneWith (report .badParam)))
    ∧ ∀ c : ChanId, (byteAt r 16).toNat = c.val →
      let good := ReservedZero r [0, 4, 5, 6, 7, 16, 17] ∧ (byteAt r 17).toNat ≤ 1
      (¬ good → exec .closeChannel s = .next (s.doneWith (report .badParam)))
      ∧ (good → (s.chan c).state = .closed → exec .closeChannel s = .next (s.doneWith (report .notOpen)))
      ∧ (good → (s.chan c).state = .closing → exec .closeChannel s = .next (s.doneWith (report .busy)))
      ∧ (good → (s.chan c).isOpen = true → byteAt r 17 = 0 → s.Named c →
          exec .closeChannel s = .next (s.doneWith (report .mapped)))

/-- A close that is taken (R49 to R52, R100): only the channel changes; it is CLOSING with the mode and tag kept, or its close has
ended at once; no record that had not begun is left, and the fetch position falls back to the oldest of those released; what
is outstanding is absorbed; the FIFO is discarded and counted, but for the flush of a GRACEFUL RX close with a CURRENT record;
and each CURRENT and DRAINING record has the status of its mode, ABORTED, or PARTIAL on a GRACEFUL TX close. -/
def Obligations.CloseChannelTaken : Prop :=
  ∀ (s : State) (r : List Byte) (c : ChanId), s.Taking r → byteAt r 0 = 0xA → (byteAt r 16).toNat = c.val →
    ReservedZero r [0, 4, 5, 6, 7, 16, 17] → (s.chan c).isOpen = true →
    ∀ mode : CloseMode, (mode = .graceful ∧ byteAt r 17 = 0 ∧ ¬ s.Named c ∨ mode = .abort ∧ byteAt r 17 = 1) →
    ∃ u : State, exec .closeChannel s = .next u.leftCommand ∧ OnlyChannels (· = c) s u
      ∧ let ch := s.chan c
        let t := u.chan c
        (t.state = .closing ∧ t.closeRec = some { mode := mode, tag := u32At r 4 }
          ∨ t.state = .closed ∧ t.closeRec = none ∧ t.list = [] ∧ t.groups = [] ∧ t.requests = [] ∧ t.descRead = .none)
        ∧ t.ringWindow = ch.ringWindow
        ∧ (∀ x, (ch.list.filter BufferRecord.untouched).head? = some x → t.fetch = x.ring)
        ∧ ((∀ x ∈ ch.list, x.untouched = false) → t.fetch = ch.fetch)
        ∧ (∀ st, (mode = .abort ∧ st = .aborted ∨ mode = .graceful ∧ ch.cfg.dir = .tx ∧ st = .partialFrames) →
            ∀ x ∈ ch.list, (x.state = .current ∨ x.state = .draining) → x.finalStatus = .done →
              ∃ y ∈ t.list, y.ring = x.ring ∧ y.finalStatus = st ∧ (y.state = x.state ∨ y.state = .retiring))
        ∧ t.config = ch.config ∧ t.haltCause = none ∧ t.producer = ch.producer
        ∧ (∀ x ∈ t.list, x.state ≠ .next ∧ ∀ why, x.state ≠ .poisoned why)
        ∧ (∀ q ∈ t.requests, q.absorbed = true) ∧ (t.descRead = .none ↔ ch.descRead = .none)
        ∧ t.descRead ≠ .outstanding
        ∧ ((mode = .abort ∨ ch.cfg.dir = .tx ∨ ch.current? = none) → t.groups = [] ∧ t.idleFrame = none
            ∧ t.gapMark = false
            ∧ (ch.requests = [] → t.moved = ch.moved
              ∧ (ch.cfg.dir = .rx → t.lost = ch.lost + BitVec.ofNat 32 ch.groups.length ∧ t.discarded = ch.discarded)
              ∧ (ch.cfg.dir = .tx →
                  t.lost = ch.lost ∧ t.discarded = ch.discarded + BitVec.ofNat 32 ch.groups.length)))

/-- A close ends when nothing of the channel is left (R54): the ring's reference is let go, the channel is CLOSED and keeps its
configuration (R40), and the COMMAND_DONE enters its reservation with the consumed index and the four counters. A command that
waits for a reservation takes it then, when it can be granted (R111, R149). A close of a channel with nothing in flight ends as
it is taken, in the same step (assumption log 5). CLOSE_END changes nothing where something is left (assumption log 2: the
model's choice). -/
def Obligations.CloseEndReportsFinalCounters : Prop :=
  ∀ (s : State) (c : ChanId) (w : WinId), s.device.state = .running → (s.chan c).ringWindow = some w →
    let ch := s.chan c
    let report := fun (tag : U32) (consumed : U16) =>
      { doneReport 0xA tag .ok (BitVec.ofNat 8 c.val) 0 with
        consumed := consumed, v0 := ch.moved, v1 := ch.lost, v2 := ch.discarded, v3 := ch.buffersDone }
    let freed := s.windows.set w.val { s.window w with use := (s.window w).use - 1 }
    let left := ch.requests = [] ∧ ch.descRead = .none ∧ ch.groups = [] ∧ ch.list = []
    (∀ mode tag, ch.state = .closing → ch.closeRec = some { mode := mode, tag := tag } → left →
      let ended := ({ s with
        windows := freed
        chans := s.chans.set c.val { ch with state := .closed, closeRec := none } } : State).withDone (report tag ch.consumed)
      let grants := ended.cmd.state = .waitSpace ∧ ended.Grantable
      (¬ grants → exec (.closeEnd c) s = .next ended) ∧ (grants → exec (.closeEnd c) s = .next ended.granted))
    ∧ (¬ (ch.state = .closing ∧ left) → exec (.closeEnd c) s = .next s)
    ∧ ∀ r, s.Taking r → byteAt r 0 = 0xA → (byteAt r 16).toNat = c.val → ReservedZero r [0, 4, 5, 6, 7, 16, 17] →
        ch.isOpen = true → (byteAt r 17 = 1 ∨ byteAt r 17 = 0 ∧ ¬ s.Named c) → left →
        exec .closeChannel s = .next (({ s with
          windows := freed
          chans := s.chans.set c.val
            { ch with state := .closed, closeRec := none, haltCause := none, idleFrame := none,
                      gapMark := false, consumed := ch.fetch }
          port := (s.port.setWaitData ch.cfg.priority c false).setWaitDesc c false } : State).doneWith
            (report (u32At r 4) ch.fetch))

/-- RESUME_CHANNEL (R59): a HALTED channel is STARVED again without a halt cause, and its descriptor fetch is asked for from the
fetch position; nothing else of it changes. -/
def Obligations.ResumeChannelLeavesHalt : Prop :=
  ∀ (s : State) (r : List Byte), s.Taking r → byteAt r 0 = 0xB →
    let report := fun st => doneReport 0xB (u32At r 4) st (byteAt r 16) 0
    (64 ≤ (byteAt r 16).toNat → exec .resumeChannel s = .next (s.doneWith (report .badParam)))
    ∧ ∀ c : ChanId, (byteAt r 16).toNat = c.val →
      (¬ ReservedZero r [0, 4, 5, 6, 7, 16] → exec .resumeChannel s = .next (s.doneWith (report .badParam)))
      ∧ (ReservedZero r [0, 4, 5, 6, 7, 16] → (s.chan c).state ≠ .halted →
          exec .resumeChannel s = .next (s.doneWith (report .notHalted)))
      ∧ (ReservedZero r [0, 4, 5, 6, 7, 16] → (s.chan c).state = .halted → (s.chan c).Settled →
          exec .resumeChannel s = .next (State.doneWith (s.put c { s.chan c with state := .starved, haltCause := none })
            { report .ok with consumed := (s.chan c).consumed }))

/-- QUERY_CHANNEL (R60): the report of the channel as it stands, in the places of spec/11, and no change of the channel. -/
def Obligations.QueryChannelReportsAndChangesNothing : Prop :=
  ∀ (s : State) (r : List Byte), s.Taking r → byteAt r 0 = 0xC →
    let report := fun st => doneReport 0xC (u32At r 4) st (byteAt r 16) 0
    (64 ≤ (byteAt r 16).toNat → exec .queryChannel s = .next (s.doneWith (report .badParam)))
    ∧ ∀ c : ChanId, (byteAt r 16).toNat = c.val →
      (¬ ReservedZero r [0, 4, 5, 6, 7, 16] → exec .queryChannel s = .next (s.doneWith (report .badParam)))
      ∧ (ReservedZero r [0, 4, 5, 6, 7, 16] → (s.chan c).state = .closed →
          exec .queryChannel s = .next (s.doneWith (report .notOpen)))
      ∧ (ReservedZero r [0, 4, 5, 6, 7, 16] → (s.chan c).state ≠ .closed →
          (s.chan c).cfg.lanes ≤ 8 → (s.chan c).groups.length ≤ 32 → (s.chan c).list.length ≤ 3 →
          let state := match (s.chan c).state with
            | .closed => 0 | .starved => 1 | .active => 2 | .halted => 3 | .closing => 4
          let cause := match (s.chan c).state, (s.chan c).haltCause with
            | .halted, some .badDescriptor => 1
            | .halted, some .windowFault => 2
            | .halted, some .busError => 3
            | _, _ => 0
          let tx := if (s.chan c).cfg.dir = .tx then 1 else 0
          exec .queryChannel s = .next (s.doneWith { report .ok with
            ring := (s.chan c).producer, consumed := (s.chan c).consumed, v0 := (s.chan c).moved,
            v1 := (s.chan c).lost, v2 := (s.chan c).discarded, v3 := (s.chan c).buffersDone
            stamp := BitVec.ofNat 32 (state + 2 ^ 3 * cause + 2 ^ 5 * tx + 2 ^ 8 * (s.chan c).cfg.lanes
              + 2 ^ 16 * (s.chan c).groups.length + 2 ^ 24 * (s.chan c).list.length) }))

/-! ## Windows, coalescing, NOP and the unknown kind -/

/-- SET_WINDOW in the order of R141: a window in use is refused with its use count; else it takes the new base, limit and
permissions, or, disabled, its reset values. -/
def Obligations.SetWindowInOrder : Prop :=
  ∀ (s : State) (r : List Byte), s.Taking r → byteAt r 0 = 0xD →
    let report := fun st => doneReport 0xD (u32At r 4) st (byteAt r 16) 0
    (8 ≤ (byteAt r 16).toNat → exec .setWindow s = .next (s.doneWith (report .badParam)))
    ∧ ∀ w : WinId, (byteAt r 16).toNat = w.val →
      let clean := ReservedZero r
          [0, 4, 5, 6, 7, 16, 17, 18, 24, 25, 26, 27, 28, 29, 30, 31, 32, 33, 34, 35, 36, 37, 38, 39]
        ∧ (byteAt r 17).toNat < 2 ∧ (byteAt r 18).toNat < 4
      let base := u64At r 24
      let limit := u64At r 32
      let pages := base.toNat % 4096 = 0 ∧ limit.toNat % 4096 = 4095 ∧ base.toNat ≤ limit.toNat
      (¬ clean → exec .setWindow s = .next (s.doneWith (report .badParam)))
      ∧ (clean → (s.window w).use ≠ 0 → exec .setWindow s = .next (s.doneWith { report .inUse with
          v0 := BitVec.ofNat 32 (s.window w).use }))
      ∧ (clean → (s.window w).use = 0 → byteAt r 17 = 1 → ¬ pages →
          exec .setWindow s = .next (s.doneWith (report .badParam)))
      ∧ (clean → (s.window w).use = 0 → byteAt r 17 = 1 → pages →
          exec .setWindow s = .next (({ s with
            windows := s.windows.set w.val
              { enabled := true, base := base, limit := limit, read := (byteAt r 18).getLsbD 0,
                write := (byteAt r 18).getLsbD 1, use := 0 } } : State).doneWith (report .ok)))
      ∧ (clean → (s.window w).use = 0 → byteAt r 17 = 0 →
          exec .setWindow s = .next (({ s with
            windows := s.windows.set w.val
              { enabled := false, base := 0, limit := 0, read := false, write := false, use := 0 } } : State).doneWith
              (report .ok)))

/-- SET_COALESCING (R118): N of 1 to 255 and T are stored; the coalescer fires when its counter stands at N or more, or stands
above 0 with the elapsed time at a non-zero T or more; the values before are reported. -/
def Obligations.SetCoalescingStoresAndMayFire : Prop :=
  ∀ (s : State) (r : List Byte), s.Taking r → byteAt r 0 = 0xE →
    let n := (u16At r 16).toNat
    let time := (u16At r 18).toNat
    let good := (1 ≤ n ∧ n ≤ 255) ∧ ReservedZero r [0, 4, 5, 6, 7, 16, 17, 18, 19]
    let report := { doneReport 0xE (u32At r 4) .ok 0 0 with
      v0 := BitVec.ofNat 32 s.coal.count, v1 := BitVec.ofNat 32 s.coal.time }
    let fires := n ≤ s.coal.counter ∨ (0 < s.coal.counter ∧ time ≠ 0 ∧ ∃ e, s.coal.timer = some e ∧ time ≤ e)
    (¬ good → exec .setCoalescing s = .next (s.doneWith (doneReport 0xE (u32At r 4) .badParam 0 0)))
    ∧ (good → ¬ fires →
        exec .setCoalescing s = .next (({ s with coal := { s.coal with count := n, time := time } } : State).doneWith report))
    ∧ (good → fires →
        exec .setCoalescing s = .next (({ s with
          coal := { count := n, time := time, counter := 0, timer := none }
          irqCause := { s.irqCause with completion := true } } : State).doneWith report))

/-- NOP completes with the head at its take, OK or BAD_PARAM (R154); a record of a kind outside the catalogue completes
UNKNOWN_COMMAND with the kind byte as read (R150). -/
def Obligations.NopAndUnknownComplete : Prop :=
  ∀ (s : State) (r : List Byte), s.Taking r →
    (byteAt r 0 = 1 →
      (ReservedZero r [0, 4, 5, 6, 7] →
        exec .nop s = .next (s.doneWith { doneReport 1 (u32At r 4) .ok 0 0 with v0 := s.cmd.head }))
      ∧ (¬ ReservedZero r [0, 4, 5, 6, 7] →
        exec .nop s = .next (s.doneWith { doneReport 1 (u32At r 4) .badParam 0 0 with v0 := s.cmd.head })))
    ∧ ((byteAt r 0 = 0 ∨ 0x0E < (byteAt r 0).toNat) →
        exec .unknownCommand s = .next (s.doneWith
          { doneReport 0 (u32At r 4) .unknownCommand 0 0 with v0 := (byteAt r 0).setWidth 32 }))

/-! ## The register window -/

/-- What a 32-bit read of each register returns (R159, R173), and what a read at any other offset, or a narrower one, returns
(assumption log 24: a read is a function of the model, not a step).

IRQ_CAUSE clears the causes written with 1 (R119) and IRQ_MASK stores the enables (R120); nothing else changes, and INTn is
asserted exactly while a cause is both set and enabled.

REGISTER_WRITE (R159, R160): CONFIG_ADDR_LO stores bits 5 to 31 and CONFIG_ADDR_HI bits 32 to 63 of the configuration
address, in every device state; a CTRL write of another ACTION, a narrow write, and a write at a read-only register or at no
register are ignored. -/
def Obligations.RegisterWindow : Prop :=
  (
  ∀ s : State,
    let read := fun offset => s.readRegister offset .w32
    let devState := match s.device.state with
      | .off => 0 | .loading => 1 | .running => 2 | .faulted => 3 | .resetting => 4
    let code := match s.device.fault with
      | .none => 0 | .configReadError => 1 | .configInvalid => 2 | .cmdReadError => 3 | .cplWriteError => 4
    read 0x00 = 0 ∧ read 0x14 = 0 ∧ read 0x24 = 0x5A380864
    ∧ read 0x04 = BitVec.ofNat 32 (devState + 2 ^ 8 * code)
    ∧ read 0x08 = s.device.configAddr.setWidth 32 ∧ read 0x0C = (s.device.configAddr >>> 32).setWidth 32
    ∧ read 0x10 = s.cmd.tail ∧ read 0x18 = s.writer.hostHead
    ∧ read 0x1C = BitVec.ofNat 32 (s.irqCause.completion.toNat + 2 * s.irqCause.fault.toNat)
    ∧ read 0x20 = BitVec.ofNat 32 (s.irqMask.completion.toNat + 2 * s.irqMask.fault.toNat)
    ∧ (∀ offset : BitVec 6, (0x28 ≤ offset.toNat ∨ offset.toNat % 4 ≠ 0) → read offset = 0)
    ∧ ∀ k : BitVec 6, k.toNat % 4 = 0 → ∀ i, i < 4 →
        s.readRegister (k + BitVec.ofNat 6 i) .w8 = ((read k).extractLsb' (8 * i) 8).setWidth 32
        ∧ (i % 2 = 0 → s.readRegister (k + BitVec.ofNat 6 i) .w16 = ((read k).extractLsb' (8 * i) 16).setWidth 32))
  ∧
  (
  (
  (∀ s : State, s.intn = true ↔
    (s.irqCause.completion = true ∧ s.irqMask.completion = true ∨ s.irqCause.fault = true ∧ s.irqMask.fault = true))
  ∧ ∀ (s : State) (v : U32), s.device.resetLow = false →
    exec (.irqCauseWrite v) s = .next { s with irqCause :=
      { completion := if v.getLsbD 0 then false else s.irqCause.completion
        fault := if v.getLsbD 1 then false else s.irqCause.fault } }
    ∧ exec (.irqMaskWrite v) s = .next { s with irqMask := { completion := v.getLsbD 0, fault := v.getLsbD 1 } })
  ∧
  (
  ∀ (s : State) (v : U32), s.device.resetLow = false →
    (∃ a : U64, exec (.registerWrite 0x08 .w32 v) s = .next { s with device := { s.device with configAddr := a } }
      ∧ a.toNat = s.device.configAddr.toNat / 2 ^ 32 * 2 ^ 32 + v.toNat / 32 * 32)
    ∧ (∃ a : U64, exec (.registerWrite 0x0C .w32 v) s = .next { s with device := { s.device with configAddr := a } }
      ∧ a.toNat = v.toNat * 2 ^ 32 + s.device.configAddr.toNat % 2 ^ 32)
    ∧ (v.toNat % 256 ≠ 1 → v.toNat % 256 ≠ 2 → exec (.registerWrite 0x00 .w32 v) s = .next s)
    ∧ (∀ offset : BitVec 6, (offset = 0x04 ∨ offset = 0x24 ∨ 0x28 ≤ offset.toNat ∨ offset.toNat % 4 ≠ 0) →
        exec (.registerWrite offset .w32 v) s = .next s)
    ∧ ∀ offset : BitVec 6, exec (.registerWrite offset .w8 v) s = .next s ∧ exec (.registerWrite offset .w16 v) s = .next s))

/-- CMDQ_TAIL (R147, R148): ignored while no queue is checked; accepted within range, stored, and a fetch begun in IDLE; else
rejected with TAIL_REJECTED.

CPLQ_HEAD (R108): ignored while the queue is not set; accepted up to the limit index, stored, and the write of R106 asked for
again; else rejected with HEAD_REJECTED. -/
def Obligations.QueueIndexPosts : Prop :=
  (
  ∀ (s : State) (v : U32), s.device.resetLow = false →
    let checked := s.device.state = .running ∨ s.device.state = .faulted
    (¬ checked ∨ s.cmd.queue = none → exec (.cmdqTailWrite v) s = .next s)
    ∧ ∀ q, checked → s.cmd.queue = some q →
      let ok := (v - s.cmd.head).toNat ≤ q.size ∧ (s.cmd.tail - s.cmd.head).toNat ≤ (v - s.cmd.head).toNat
      (ok → (s.cmd.state ≠ .idle ∨ s.cmd.head = v) →
        exec (.cmdqTailWrite v) s = .next { s with cmd := { s.cmd with tail := v } })
      ∧ (ok → s.cmd.state = .idle → s.cmd.head ≠ v →
        exec (.cmdqTailWrite v) s = .next { s with cmd := { s.cmd with tail := v, state := .fetching }
                                                   port := { s.port with wait4 := s.port.wait4 ++ [.cmdRead] } })
      ∧ (¬ ok → exec (.cmdqTailWrite v) s = .next (s.rejectPost .tail none v .range)))
  ∧
  (
  ∀ (s : State) (v : U32), s.device.resetLow = false →
    (s.writer.queue = none → exec (.cplqHeadWrite v) s = .next s)
    ∧ ∀ q, s.writer.queue = some q →
      let limit := if s.writer.outstanding then s.writer.writeIndex + 1 else s.writer.writeIndex
      let ok := (v - s.writer.hostHead).toNat ≤ (limit - s.writer.hostHead).toNat
      (ok → s.device.state = .running →
        exec (.cplqHeadWrite v) s = .next { s with
          writer := { s.writer with hostHead := v }
          port := { s.port with
            wait0 := !s.writer.list.isEmpty && !s.writer.outstanding
              && decide ((s.writer.writeIndex - v).toNat < q.size) } })
      ∧ (ok → s.device.state ≠ .running →
        exec (.cplqHeadWrite v) s = .next { s with writer := { s.writer with hostHead := v } })
      ∧ (¬ ok → exec (.cplqHeadWrite v) s = .next (s.rejectPost .head none v .range)))

/-- CHAN_POST (R81, R82): the channel of bits 16 to 21 takes the index of bits 0 to 15 when it is open and both distances are
within the ring; else POST_REJECTED with its reason. Away from a pass end an accepted post changes the producer index and
the descriptor fetch it asks for, and nothing else; while RESETTING the index alone (assumption log 30: the model's reading).

The device event record (R113, R114): a rejection forms it or merges into it, the merged count saturating at 65535. -/
def Obligations.ChannelPostsAndRejections : Prop :=
  (
  ∀ (s : State) (v : U32) (c : ChanId), s.device.resetLow = false → c.val = v.toNat / 2 ^ 16 % 64 →
    let ch := s.chan c
    let index : U16 := v.setWidth 16
    let inRange := (index - ch.consumed).toNat ≤ ch.cfg.ringSize ∧ (index - ch.producer).toNat ≤ ch.cfg.ringSize
    (ch.state = .closed ∨ ch.state = .closing →
      exec (.chanPostWrite v) s = .next (s.rejectPost .post (some c) (index.setWidth 32) .notOpen))
    ∧ (ch.isOpen = true → ¬ inRange →
      exec (.chanPostWrite v) s = .next (s.rejectPost .post (some c) (index.setWidth 32) .range))
    ∧ (ch.isOpen = true → inRange → s.device.state = .resetting →
      exec (.chanPostWrite v) s = .next { s with chans := s.chans.set c.val { ch with producer := index } })
    ∧ (ch.isOpen = true → inRange → s.device.state ≠ .resetting → ch.Settled →
        (∀ r, ch.current? = some r → r.pass.issued < r.frames) →
        exec (.chanPostWrite v) s = .next (s.put c { ch with producer := index }))
    ∧ (ch.isOpen = true → inRange → s.device.state ≠ .resetting →
        ∃ t, exec (.chanPostWrite v) s = .next t ∧ (t.chan c).producer = index ∧ OnlyChannels (· = c) s t))
  ∧
  (
  ∀ (s : State) (k : PostKind) (c : Option ChanId) (index : U32) (why : PostReason),
    let holding := fun (e : DeviceEvent) => ({ s with writer := { s.writer with devEvent := some e } } : State)
    (s.writer.devEvent = none → s.rejectPost k c index why = holding
      { first := k, seenPost := decide (k = .post), seenTail := decide (k = .tail), seenHead := decide (k = .head),
        channel := c, index := index, reason := why, merged := 0 })
    ∧ ∀ e, s.writer.devEvent = some e → e.merged ≤ 65535 → s.rejectPost k c index why = holding
      { e with seenPost := e.seenPost || decide (k = .post), seenTail := e.seenTail || decide (k = .tail),
               seenHead := e.seenHead || decide (k = .head), merged := min (e.merged + 1) 65535 })

/-! ## Enable, faults and resets -/

/-- ENABLE (R160, R161): in OFF the load begins with the configuration address; in every other state it is ignored.

The response to the CONFIG_READ (R162, R163): a valid record sets both queues and the thresholds and the device runs; an
invalid one or an ERROR ends the load in a fault. -/
def Obligations.EnableAndConfigLoad : Prop :=
  (
  ∀ (s : State) (upper : BitVec 24), s.device.resetLow = false →
    (s.device.state = .off → exec (.enable upper) s = .next { s with
      device := { s.device with state := .loading, loadAddr := some s.device.configAddr }
      port := { s.port with wait4 := s.port.wait4 ++ [.configRead] } })
    ∧ (s.device.state ≠ .off → exec (.enable upper) s = .next s))
  ∧
  (
  ∀ (s : State) (tag : TagId) (t : Transaction), s.device.state = .loading → s.port.entry tag = some t →
    t.kind = .configRead →
    let ended : State := { s.answered tag t with device := { s.device with loadAddr := none } }
    exec (.configReadResponse tag .error) s = .next (ended.enterFault .configReadError)
    ∧ ∀ bs : List Byte, bs.length = t.length →
      (¬ ConfigValid bs → exec (.configReadResponse tag (.okay bs)) s = .next (ended.enterFault .configInvalid))
      ∧ (ConfigValid bs → exec (.configReadResponse tag (.okay bs)) s = .next { ended with
          device := { s.device with state := .running, loadAddr := none }
          cmd := { s.cmd with queue := some { base := u64At bs 0, size := 2 ^ (byteAt bs 16).toNat }, head := 0, tail := 0,
                              state := .idle }
          writer := { s.writer with queue := some { base := u64At bs 8, size := 2 ^ (byteAt bs 17).toNat }
                                    writeIndex := 0, hostHead := 0, phase := true }
          coal := { count := (byteAt bs 20).toNat, time := (u16At bs 22).toNat, counter := 0, timer := none } }))

/-- A device fault (R16, R19, R164, R165): taken in LOADING and RUNNING it sets the code and the FAULT cause, stops the Command
Processor and the asking of the list transfer, forces every link OFF and hands the link-down notice to the channels of each
LOCKED one; beyond that nothing is handled. In every other state it changes nothing. A list transfer with nothing outstanding
keeps its window's reference to the reset (assumption log 14). -/
def Obligations.DeviceFaultTaken : Prop :=
  ∀ (s : State) (code : FaultCode),
    (s.device.state ≠ .loading → s.device.state ≠ .running → s.enterFault code = s)
    ∧ (s.device.state = .loading ∨ s.device.state = .running →
      let t := s.enterFault code
      t = ({ s with
          device := { s.device with state := .faulted, fault := code }
          irqCause := { s.irqCause with fault := true }
          cmd := { s.cmd with state := .stopped, inHand := if s.cmd.state = .waitSpace then none else s.cmd.inHand }
          transfer := s.transfer.map fun x => { x with stopped := true } } : State).linksForcedOff
      ∧ OnlyChannels s.OnLockedLink
        { s with
          device := { s.device with state := .faulted, fault := code }
          irqCause := { s.irqCause with fault := true }
          cmd := { s.cmd with state := .stopped, inHand := if s.cmd.state = .waitSpace then none else s.cmd.inHand }
          links := t.links, transfer := s.transfer.map fun x => { x with stopped := true } } t
      ∧ ∀ l, t.link l = (s.link l).forcedOff)

/-- RESET (R160, R166, R167): ignored while RESETTING; with nothing outstanding the reset ends at once; else the device is
RESETTING, its links are OFF, the channels of each LOCKED one have the link-down notice (R16, R19), the Command Processor is
STOPPED, every waiting request withdrawn and the timer stopped; what is outstanding stays so, and no window is claimed or
released (R144). The end is part of the step that makes it due (assumption log 5), and the commands that wait to
reach the part are kept (assumption log 27). -/
def Obligations.ResetActionTaken : Prop :=
  ∀ (s : State) (upper : BitVec 24), s.device.resetLow = false →
    (s.device.state = .resetting → exec (.reset upper) s = .next s)
    ∧ (s.device.state ≠ .resetting → s.port.Empty → exec (.reset upper) s = .next s.afterSoftReset)
    ∧ (s.device.state ≠ .resetting → ¬ s.port.Empty → ∃ t, exec (.reset upper) s = .next t
      ∧ t = { ({ s with
            device := { s.device with state := .resetting }
            cmd := { s.cmd with state := .stopped, inHand := if s.cmd.state = .waitSpace then none else s.cmd.inHand } } :
              State).linksForcedOff with
          coal := { s.coal with timer := none }
          port := { s.port with wait0 := false, wait1 := Vector.replicate 64 false, wait2 := Vector.replicate 64 false,
                                wait3 := Vector.replicate 64 false, wait4 := [] } }
      ∧ t.windows = s.windows ∧ t.writer = s.writer ∧ t.maps = s.maps ∧ t.transfer = s.transfer
      ∧ (∀ c, ¬ s.OnLockedLink c → t.chan c = s.chan c) ∧ ∀ l, t.link l = (s.link l).forcedOff)

/-- While RESETTING a response frees the entry of its tag, whatever it carries, and is discarded; with the last one the reset ends,
as SOFT_RESET_END does where nothing is outstanding (R134, R167; the end is part of the same step: assumption log 5; elsewhere
the row changes nothing: assumption log 2; the waiting commands are kept: assumption log 27).

A response with the tag of a free entry changes nothing (R129). That the row RESPONSE_MATCHING_NO_TRANSACTION changes nothing
with the tag of an entry in use either is the model's choice (assumption log 2). Every other response row is matched by its tag
alone, whichever of them it is (R129, R168); a requester of a read takes the bytes it asked for, and a free byte in place of each
that a stale response does not carry (assumption log 7). -/
def Obligations.ResponsesDiscarded : Prop :=
  (
  ∀ s : State,
    (∀ (c : Instr) (tag : TagId) (answer : ReadResult) (t : Transaction), s.device.state = .resetting →
      s.port.entry tag = some t → responseOf c = some (tag, answer) →
      ((s.port.freed tag t).Empty → exec c s = .next s.afterSoftReset)
      ∧ (¬ (s.port.freed tag t).Empty → exec c s = .next (s.answered tag t)))
    ∧ (s.device.state = .resetting → s.port.Empty → exec .softResetEnd s = .next s.afterSoftReset)
    ∧ (¬ (s.device.state = .resetting ∧ s.port.Empty) → exec .softResetEnd s = .next s))
  ∧
  (
  ∀ (s : State) (tag : TagId),
    exec (.responseMatchingNoTransaction tag) s = .next s
    ∧ (∀ c answer, responseOf c = some (tag, answer) → s.port.entry tag = none → exec c s = .next s)
    ∧ (∀ c c' answer, responseOf c = some (tag, answer) → responseOf c' = some (tag, answer) → exec c s = exec c' s)
    ∧ ∀ t bs, s.port.entry tag = some t →
        t.kind = .txRead ∨ t.kind = .descRead ∨ t.kind = .cmdRead ∨ t.kind = .listRead ∨ t.kind = .configRead →
        let answered := fun (x : List Byte) (u : State) => exec (.txReadResponse tag (.okay x)) u
        (t.length ≤ bs.length → answered bs s = answered (bs.take t.length) s)
        ∧ (bs.length < t.length → s.device.state ≠ .resetting → ∃ more : List Byte, bs.length + more.length = t.length
            ∧ answered bs s = answered (bs ++ more) { s with freeBytes := s.freeBytes + more.length }))

/-- The power-on reset (R168): whatever stands, every block takes its reset values and the configuration address is 0; while the pin
is low register writes are ignored and the timebase stands (assumption log 25: the model's reading); its release leaves the part
as State.reset, the part after RESETn has gone high (assumption log 9). The commands that wait to reach the part, the bit clocks
to come and the count of free bytes are kept (assumption log 27, 7). -/
def Obligations.PowerOnResetClearsAll : Prop :=
  ∀ s : State,
    let low : State := { State.reset with device := { State.reset.device with resetLow := true }
                                          freeBytes := s.freeBytes, pending := s.pending, clocks := s.clocks }
    exec .powerOnReset s = .next low
    ∧ exec .powerOnResetRelease low = .next { State.reset with freeBytes := s.freeBytes, pending := s.pending, clocks := s.clocks }
    ∧ exec .powerOnResetRelease s = .next { s with device := { s.device with resetLow := false } }
    ∧ (s.device.resetLow = true → exec .timebaseTick s = .next s ∧ ∀ c, isRegisterWrite c = true → exec c s = .next s)

/-! ## Link events -/

/-- Frame starts (R6 to R10, R12, R15, R17): a sync pulse locks a HUNTING role IN link with a LOCKED event; a sync on time, a first
missed boundary and a role OUT boundary start the next frame of a LOCKED link after its last bit position; a pending swap is
performed at the start, with cause FRAME_START and the number of the new frame as its stamp, and a command that waits for a
reservation takes it then, when it can be granted (R111, R149). That the performance clears the tag held with the swap is the
model's choice (assumption log 31). A pulse leaves FSY sampled high (R6; assumption log 6 for the rows). -/
def Obligations.FrameStartsAndPendingSwaps : Prop :=
  ∀ (s : State) (l : LinkId) (cfg : LinkConfig), s.device.state = .running → (s.link l).config = some cfg →
    let starting := fun missed low =>
      { s.link l with state := .locked, frame := (s.link l).frame + 1, bitPos := some 0, launched := 0,
                                     completed := 0, missed := missed, fsyLow := low }
    let event := match (s.link l).event with
      | none => { locked := true, lost := false, slip := false, slips := 0, losses := 0, linkState := .locked,
                  stamp := (s.link l).frame + 1 }
      | some e => { e with locked := true, linkState := .locked, stamp := (s.link l).frame + 1 }
    let with_ := s.setLink l
    (cfg.role = .roleIn → (s.link l).state = .hunting →
      exec (.syncPulseLock l) s = .next (with_ { starting 0 false with event := some event }))
    ∧ ∀ c missed low, (s.link l).state = .locked → (s.link l).bitPos = some (cfg.slots * cfg.width - 1) →
        (s.link l).completed = cfg.slots →
        (c = .syncOnTime l ∧ cfg.role = .roleIn ∧ missed = 0 ∧ low = false
          ∨ c = .freewheel l ∧ cfg.role = .roleIn ∧ (s.link l).missed = 0 ∧ missed = 1 ∧ low = (s.link l).fsyLow
          ∨ c = .frameBoundaryOut l ∧ cfg.role = .roleOut ∧ missed = 0 ∧ low = (s.link l).fsyLow) →
        ((s.map l).swapPending = false → exec c s = .next (with_ (starting missed low)))
        ∧ ∀ tag, (s.map l).swapPending = true → (s.map l).swapTag = some tag →
            let done := (with_ (starting missed low)).exchanged l tag 2
            let grants := done.cmd.state = .waitSpace ∧ done.Grantable
            (¬ grants → exec c s = .next done) ∧ (grants → exec c s = .next done.granted)

/-- LINK_LOSS (R10, R15 to R17): the second missed boundary of a LOCKED role IN link. The link hunts, no frame starts, a LOST event
forms or merges; a pending swap is performed with cause LOSS and the unchanged frame counter; the link-down notice goes
to the channels named in the bank that was active until then.

SLIP (R11, R15 to R17): the cut-short notice goes to the channels of the bank in use, a frame starts, a SLIP event forms or
merges, and a pending swap is performed with the number of the new frame. TXD is undriven until the next launch
(assumption log 22). In both, that the performance clears the tag held with the swap is the model's choice (assumption log 31).
-/
def Obligations.LossAndSlipBreakFrames : Prop :=
  (
  ∀ (s : State) (l : LinkId) (cfg : LinkConfig), s.device.state = .running → (s.link l).config = some cfg →
    cfg.role = .roleIn → (s.link l).state = .locked → (s.link l).bitPos = some (cfg.slots * cfg.width - 1) →
    (s.link l).completed = cfg.slots → (s.link l).missed = 1 →
    let event := match (s.link l).event with
      | none => { locked := false, lost := true, slip := false, slips := 0, losses := 1, linkState := .hunting,
                  stamp := (s.link l).frame }
      | some e => { e with lost := true, losses := satCount e.losses, linkState := .hunting, stamp := (s.link l).frame }
    let lost := s.setLink l
      { s.link l with state := .hunting, missed := 2, bitPos := none, txd := none, event := some event }
    ((s.map l).swapPending = false →
      exec (.linkLoss l) s = .next (lost.notify (s.map l).active Channel.linkDown))
    ∧ ∀ tag, (s.map l).swapPending = true → (s.map l).swapTag = some tag →
      exec (.linkLoss l) s = .next ((lost.exchanged l tag 3).notify (s.map l).active Channel.linkDown))
  ∧
  (
  ∀ (s : State) (l : LinkId) (cfg : LinkConfig), s.device.state = .running → (s.link l).config = some cfg →
    cfg.role = .roleIn → (s.link l).state = .locked → 0 < (s.link l).launched →
    (s.link l).bitPos ≠ some (cfg.slots * cfg.width - 1) →
    let event := match (s.link l).event with
      | none => { locked := false, lost := false, slip := true, slips := 1, losses := 0, linkState := .locked,
                  stamp := (s.link l).frame + 1 }
      | some e => { e with slip := true, slips := satCount e.slips, linkState := .locked, stamp := (s.link l).frame + 1 }
    let cut := s.notify (s.map l).active Channel.cutShort
    let started := cut.setLink l
      { s.link l with frame := (s.link l).frame + 1, missed := 0, bitPos := some 0, launched := 0, completed := 0,
                      txd := none, event := some event, fsyLow := false }
    ((s.map l).swapPending = false → exec (.slip l) s = .next started)
    ∧ ∀ tag, (s.map l).swapPending = true → (s.map l).swapTag = some tag →
      exec (.slip l) s = .next (started.exchanged l tag 2))

/-- A bit clock of a link (R6 to R11, R13, R68): FSY and RXD are sampled, the bits of RXD into `rxBits`, most significant bit
first; a sync pulse is FSY high after low, and the FSY of a role OUT link is not sampled. An OFF link, and a HUNTING one without
a pulse, only samples; a pulse locks a HUNTING link. In a slot the bit position advances by one. Behind the slot's last bit the
receive-slot-complete carries the bits of RXD and, in the slot of a transmit channel's last lane, a group that has sent it
departs, and then the next slot launches; behind the last slot is the frame boundary, with what the role and the pulse make of it, and slot 0 launches in the
frame that starts. A pulse elsewhere is a slip, before which a slot whose last bit has passed ends (assumption log 33: deduced).
A slot event that an earlier row or frame start has left due is raised first, and one that a row has raised is not raised again.
While RESETn is low nothing is sampled. The bit clocks come in a list of the model's own, between the rows (assumption log 1, 6:
the model's choice), and the first one after START_LINK is that of bit position 1 (log 34: the model's choice). -/
def Obligations.BitClockMovesTheLink : Prop :=
  ∀ (s : State) (l : LinkId) (fsy rxd : Bool),
    let b : BitClock := { link := l, fsy := fsy, rxd := rxd }
    let out := (s.link l).config.map LinkConfig.role = some .roleOut
    let sampled := fun (u : State) => u.setLink l
      { u.link l with fsyLow := !fsy && !decide out, rxBits := ((u.link l).rxBits <<< 1) ||| (if rxd then 1 else 0) }
    let pulse := fsy = true ∧ (s.link l).fsyLow = true
    (s.device.resetLow = true → s.bitClock b = s)
    ∧ (s.device.resetLow = false →
      ((s.link l).state = .off ∨ (s.link l).state = .hunting ∧ ¬ pulse → s.bitClock b = sampled s)
      ∧ ∀ cfg : LinkConfig, (s.link l).config = some cfg → 0 < cfg.slots → 0 < cfg.width →
        ((s.link l).state = .hunting → cfg.role = .roleIn → pulse →
          runRows [.syncPulseLock l, .transmitSlotLaunch l 0] (sampled s) = some (s.bitClock b))
        ∧ ((s.link l).state = .locked →
          ((s.link l).bitPos = some 0 → (s.link l).launched = 0 → (s.link l).completed = 0 →
            (runRows [.transmitSlotLaunch l 0] s).map (State.bitClock b) = some (s.bitClock b))
          ∧ (∀ k : SlotId, k.val + 2 ≤ cfg.slots → (s.link l).bitPos = some ((k.val + 1) * cfg.width) →
            (s.link l).launched = k.val + 2 → (s.link l).completed = k.val →
            (runRows (.receiveSlotComplete l k (s.link l).rxBits :: s.departures l k) s).map (State.bitClock b)
              = some (s.bitClock b))
          ∧ ∀ (k : SlotId) (p : Nat), k.val < cfg.slots → (s.link l).bitPos = some p → k.val * cfg.width ≤ p →
            (s.link l).launched = k.val + 1 → (s.link l).completed = k.val ∨ (s.link l).completed = k.val + 1 →
            let slips := pulse ∧ cfg.role = .roleIn
            (p + 1 < (k.val + 1) * cfg.width →
              (¬ slips → s.bitClock b
                = (sampled s).setLink l { (sampled s).link l with bitPos := some (p + 1) })
              ∧ (slips → runRows [.slip l, .transmitSlotLaunch l 0] (sampled s) = some (s.bitClock b)))
            ∧ (p + 1 = (k.val + 1) * cfg.width →
              let ends := if (s.link l).completed = k.val then [.receiveSlotComplete l k (s.link l).rxBits] else []
              ∃ u, runRows (ends ++ s.departures l k) s = some u
                ∧ let goes := fun rows => runRows rows (sampled u) = some (s.bitClock b)
                  (∀ next : SlotId, next.val = k.val + 1 → next.val < cfg.slots →
                    (¬ slips → goes [.transmitSlotLaunch l next]) ∧ (slips → goes [.slip l, .transmitSlotLaunch l 0]))
                  ∧ (k.val + 1 = cfg.slots →
                    (cfg.role = .roleOut → goes [.frameBoundaryOut l, .transmitSlotLaunch l 0])
                    ∧ (slips → goes [.syncOnTime l, .transmitSlotLaunch l 0])
                    ∧ (cfg.role = .roleIn → ¬ pulse → (s.link l).missed = 0 →
                        goes [.freewheel l, .transmitSlotLaunch l 0])
                    ∧ (cfg.role = .roleIn → ¬ pulse → (s.link l).missed = 1 → goes [.linkLoss l])))))

/-- A notice reaches each channel named in the bank that is not CLOSED, and no other (R16; a CLOSED channel is passed over:
assumption log 16, the model's reading): a channel that it leaves settled and not closing has what the notice makes of it. While
RESETTING it changes channels alone (R144).

The cut-short notice at a receive and a transmit channel (R69), and the link-down notice on top of it (R70; it sets GAP on the
CURRENT record in every channel state: assumption log 16). -/
def Obligations.NoticesEndFrameGroups : Prop :=
  (
  ∀ (s : State) (b : Bank) (f : Channel → Channel),
    OnlyChannels (fun c => b.names c = true ∧ (s.chan c).state ≠ .closed) s (s.notify b f)
    ∧ (∀ c, b.names c = true → (s.chan c).state ≠ .closed → (f (s.chan c)).Settled → (f (s.chan c)).state ≠ .closing →
        (s.notify b f).chan c = f (s.chan c))
    ∧ (s.device.state = .resetting → (∃ cs, s.notify b f = { s with chans := cs })
        ∧ ∀ c, b.names c = true → (s.chan c).state ≠ .closed → (s.notify b f).chan c = f (s.chan c)))
  ∧
  (
  ∀ ch : Channel,
    let marked := fun (loss : Bool) => ch.list.map fun r => if r.state = .current then
      { r with pass := { r.pass with gap := true, tally := if loss then satTally r.pass.tally else r.pass.tally } } else r
    let filling := ∃ gs g, ch.groups = gs ++ [g] ∧ g.cond = .filling
    let launching := ∃ g gs, ch.groups = g :: gs ∧ g.cond = .launching
    (ch.cfg.dir = .rx →
      (¬ filling → ch.cutShort = { ch with idleFrame := none })
      ∧ (filling → ch.current? = none →
          ch.cutShort = { ch with idleFrame := none, groups := ch.groups.dropLast, lost := ch.lost + 1, gapMark := true })
      ∧ (filling → ∀ r, ch.current? = some r →
          ch.cutShort = { ch with idleFrame := none, groups := ch.groups.dropLast, lost := ch.lost + 1, list := marked true })
      ∧ (¬ filling → ∀ r, ch.current? = some r →
          ch.linkDown = { ch with idleFrame := none, list := marked false })
      ∧ (filling → ∀ r, ch.current? = some r → ch.linkDown = ch.cutShort)
      ∧ (ch.current? = none → ch.state = .starved → ch.linkDown = { ch.cutShort with gapMark := true })
      ∧ (ch.current? = none → ch.state = .halted → ch.linkDown = ch.cutShort))
    ∧ (ch.cfg.dir = .tx →
      ch.linkDown = ch.cutShort
      ∧ (¬ launching → ch.cutShort = { ch with idleFrame := none })
      ∧ ∀ g gs, ch.groups = g :: gs → g.cond = .launching →
          (g.source = none → ch.cutShort = { ch with idleFrame := none, groups := gs, discarded := ch.discarded + 1 })
          ∧ ∀ src, g.source = some src → (∀ r ∈ ch.list, r.ended = []) →
              ch.cutShort = { ch with
                idleFrame := none, groups := gs, discarded := ch.discarded + 1
                list := ch.list.map fun r => if r.ring = src.ring ∧ r.pass.count = src.pass then
                  { r with pass := { r.pass with finished := r.pass.finished + 1, gap := true } } else r }))

/-! ## Slot events -/

/-- TRANSMIT_SLOT_LAUNCH at a slot whose transmit half is absent, or names a channel that is not open or not a transmit channel
(R13, R14, R22): TXD takes the link's idle behaviour. RECEIVE_SLOT_COMPLETE at a slot whose receive half is so is ignored. The bit
position is the slot's first or last bit (assumption log 6). -/
def Obligations.UnassignedSlots : Prop :=
  ∀ (s : State) (l : LinkId) (slot : SlotId) (cfg : LinkConfig), (s.link l).state = .locked →
    (s.link l).config = some cfg → slot.val < cfg.slots →
    let assigned := fun (h : Option Half) (d : Direction) =>
      ∃ x, h = some x ∧ (s.chan x.chan).isOpen = true ∧ (s.chan x.chan).cfg.dir = d
    ((s.link l).launched = slot.val → slot.val ≤ (s.link l).completed + 1 → ¬ assigned (s.map l).active[slot.val].tx .tx →
      exec (.transmitSlotLaunch l slot) s = .next (s.setLink l
        { s.link l with
          bitPos := some (slot.val * cfg.width), launched := slot.val + 1
          txd := match cfg.idleMode with
            | .drive => some (if cfg.width = 8 then cfg.idleValue &&& 0xFF else cfg.idleValue)
            | .release => none }))
    ∧ ((s.link l).completed = slot.val → slot.val < (s.link l).launched → ¬ assigned (s.map l).active[slot.val].rx .rx → ∀ x,
      exec (.receiveSlotComplete l slot x) s = .next (s.setLink l
        { s.link l with
          bitPos := if (s.link l).launched = slot.val + 1 then some (slot.val * cfg.width + cfg.width - 1)
            else (s.link l).bitPos
          completed := slot.val + 1 }))

/-- TRANSMIT_SLOT_LAUNCH passed to a transmit channel (R67, R68, R58): at lane 0 a WHOLE head launches, with the frame counter as its
stamp and as that of its pass at frame 0, or an idle frame is sent and counted, with UNDERRUN on the oldest pass with frames to
depart of the oldest record that has such (R88) unless the channel is HALTED; at a later lane the launch group's next lane leaves, or the idle value. The bit
position is the slot's first bit (assumption log 6). -/
def Obligations.TransmitSlotLaunches : Prop :=
  ∀ (s : State) (l : LinkId) (slot : SlotId) (cfg : LinkConfig) (h : Half), (s.link l).state = .locked →
    (s.link l).config = some cfg → slot.val < cfg.slots → (s.link l).launched = slot.val →
    slot.val ≤ (s.link l).completed + 1 → (s.map l).active[slot.val].tx = some h →
    (s.chan h.chan).isOpen = true → (s.chan h.chan).cfg.dir = .tx → (s.chan h.chan).Settled →
    let ch := s.chan h.chan
    let word := fun x : U16 => if ch.cfg.width = 8 then x &&& 0xFF else x
    let idleWord := word (ch.cfg.idleValue.getD 0)
    let flowing := ch.state = .starved ∨ ch.state = .active
    let sent := fun (x : U16) (ch' : Channel) =>
      exec (.transmitSlotLaunch l slot) s = .next ((s.setLink l
        { s.link l with bitPos := some (slot.val * cfg.width), launched := slot.val + 1, txd := some x }).put h.chan ch')
    let idle := { ch with idleFrame := some (s.link l).frame, lost := ch.lost + 1 }
    (h.lane = 0 → (∀ g gs, ch.groups = g :: gs → g.cond ≠ .launching) →
      (∀ g gs, flowing → ch.groups = g :: gs → g.cond = .whole →
        sent (word (g.sample 0)) { ch with
          groups := { g with cond := .launching, stamp := some (s.link l).frame, nextLane := 1 } :: gs
          idleFrame := none
          list := match g.source with
            | some src => if src.frame = 0 then
                ch.list.map fun r => if r.ring = src.ring then
                  r.mapPass src.pass fun p => { p with stamp := some (s.link l).frame } else r
              else ch.list
            | none => ch.list })
      ∧ (flowing → (∀ g gs, ch.groups = g :: gs → g.cond ≠ .whole) →
          ((∀ r ∈ ch.list, r.departing = false) → sent idleWord idle)
          ∧ ∀ pre r post, ch.list = pre ++ r :: post → (∀ x ∈ pre, x.departing = false) → r.departing = true →
              (r.ended = [] → sent idleWord { idle with list := pre
                ++ { r with pass := { r.pass with underrun := true, tally := satTally r.pass.tally } } :: post })
              ∧ ∀ p ps, r.ended = p :: ps → sent idleWord { idle with list := pre
                ++ { r with ended := { p with underrun := true, tally := satTally p.tally } :: ps } :: post })
      ∧ (ch.state = .halted → sent idleWord idle))
    ∧ (h.lane ≠ 0 →
      (∀ g gs, ch.groups = g :: gs → g.cond = .launching → g.nextLane = h.lane.val →
        sent (word (g.sample h.lane.val)) { ch with groups := { g with nextLane := h.lane.val + 1 } :: gs })
      ∧ ((∀ g gs, ch.groups = g :: gs → ¬ (g.cond = .launching ∧ g.nextLane = h.lane.val)) → sent idleWord ch))

/-- RECEIVE_SLOT_COMPLETE passed to a receive channel (R64, R65, R58): at lane 0 the frame is committed as a new group while there is
room, or dropped and counted, with OVERRUN on the CURRENT record; HALTED drops without a flag; a later lane fills the fill
group or is ignored. The bit position is the slot's last bit (assumption log 6). -/
def Obligations.ReceiveSlotTakes : Prop :=
  ∀ (s : State) (l : LinkId) (slot : SlotId) (cfg : LinkConfig) (h : Half) (x : U16), (s.link l).state = .locked →
    (s.link l).config = some cfg → slot.val < cfg.slots → (s.link l).completed = slot.val →
    slot.val < (s.link l).launched → (s.map l).active[slot.val].rx = some h →
    (s.chan h.chan).isOpen = true → (s.chan h.chan).cfg.dir = .rx → (s.chan h.chan).Settled →
    let ch := s.chan h.chan
    let n := ch.cfg.lanes
    let sample := if cfg.width = 8 then x &&& 0xFF else x
    let flowing := ch.state = .starved ∨ ch.state = .active
    let taken := fun (ch' : Channel) =>
      exec (.receiveSlotComplete l slot x) s = .next ((s.setLink l
        { s.link l with
          bitPos := if (s.link l).launched = slot.val + 1 then some (slot.val * cfg.width + cfg.width - 1)
            else (s.link l).bitPos
          completed := slot.val + 1 }).put h.chan ch')
    (h.lane = 0 →
      (flowing → (ch.groups.length + 1) * n ≤ 32 →
        taken { ch with groups := ch.groups ++
          [{ cond := if n = 1 then .whole else .filling, samples := some sample :: List.replicate (n - 1) none,
             stamp := some (s.link l).frame, source := none, nextLane := 1 }] })
      ∧ (flowing → ¬ (ch.groups.length + 1) * n ≤ 32 →
        taken { ch with
          lost := ch.lost + 1
          list := ch.list.map fun r => if r.state = .current then
            { r with pass := { r.pass with overrun := true, tally := satTally r.pass.tally } } else r })
      ∧ (ch.state = .halted → taken { ch with lost := ch.lost + 1 }))
    ∧ (h.lane ≠ 0 →
      (∀ gs g, flowing → ch.groups = gs ++ [g] → g.cond = .filling → g.nextLane = h.lane.val →
        taken { ch with groups := gs ++ [{ g with
          samples := g.samples.set h.lane.val (some sample), nextLane := h.lane.val + 1
          cond := if h.lane.val + 1 = n then .whole else .filling }] })
      ∧ (¬ flowing ∨ (∀ gs g, ch.groups = gs ++ [g] → ¬ (g.cond = .filling ∧ g.nextLane = h.lane.val)) → taken ch))

/-- GROUP_DEPARTURE (R68): a launch group whose last lane has been sent leaves the head of the FIFO, its frame counts moved, and one
frame departed and finished of its source; a record whose last frame it was, at the head of the list with NOTIFY set and
all read, retires with a DONE completion. Without such a group nothing happens (assumption log 2: the model's choice); the row
names its channel (assumption log 18). -/
def Obligations.GroupDeparts : Prop :=
  ∀ (s : State) (c : ChanId), let ch := s.chan c
    (¬ (∃ g gs, ch.groups = g :: gs ∧ g.cond = .launching ∧ g.nextLane = ch.cfg.lanes) →
      exec (.groupDeparture c) s = .next s)
    ∧ ∀ g gs src pre r post, ch.isOpen = true → ch.cfg.dir = .tx → ch.Settled → ch.groups = g :: gs → g.cond = .launching →
        g.nextLane = ch.cfg.lanes → g.source = some src → ch.list = pre ++ r :: post → r.ring = src.ring →
        (∀ x ∈ pre ++ post, x.ring ≠ src.ring) → r.pass.count = src.pass → r.ended = [] →
        let gone := { r with pass := { r.pass with departed := r.pass.departed + 1, finished := r.pass.finished + 1 } }
        (r.pass.finished + 1 < r.frames →
          exec (.groupDeparture c) s = .next (s.put c
            { ch with groups := gs, moved := ch.moved + 1, list := pre ++ gone :: post }))
        ∧ (s.device.state ≠ .resetting → r.pass.finished + 1 = r.frames → pre = [] → r.state = .draining → r.finalStatus = .done → r.notify = true →
            (∀ q ∈ ch.requests, q.ring ≠ r.ring) →
            ∃ t done, exec (.groupDeparture c) s = .next t ∧ OnlyChannels (· = c) s t
              ∧ t.chan c = { ch with
                  groups := gs, moved := ch.moved + 1, buffersDone := ch.buffersDone + 1
                  consumed := consumedIndex ({ r with state := .retiring } :: post) ch.fetch
                  list := { gone with state := .retiring, window := none, completion := some done } :: post }
              ∧ done = bufferDone c .tx gone gone.pass .done r.folded
                  (consumedIndex ({ r with state := .retiring } :: post) ch.fetch))

/-! ## Requests and grants -/

/-- When a channel's requests wait (R72, R74, R78, R83): in RUNNING, a data request waits in the class of its priority, and a
descriptor read in class 3, exactly while their conditions hold; outside RUNNING a request can only be withdrawn (assumption
log 23). Nothing else changes. -/
def Obligations.RequestsWaitWhileWanted : Prop :=
  ∀ (s : State) (c : ChanId),
    let ch := s.chan c
    let t := s.present c
    let pr := ch.cfg.priority
    let whole := (ch.groups.takeWhile fun g => g.cond == .whole).length
    let begins := fun r : BufferRecord => match ch.cfg.dir with
      | .rx => (ch.state = .active ∧ (ch.cfg.threshold ≤ whole ∨ r.frames - r.pass.issued ≤ whole))
          ∨ (ch.state = .closing ∧ (∃ tag, ch.closeRec = some { mode := .graceful, tag := tag }) ∧ 1 ≤ whole)
      | .tx => ch.state = .active ∧ ch.cfg.threshold ≤ 32 / ch.cfg.lanes - ch.groups.length
    let data := s.port.data c < 2 ∧ ((∃ q ∈ ch.requests, q.inFormation = true)
      ∨ ∃ r, ch.current? = some r ∧ r.pass.issued < r.frames ∧ begins r)
    let desc := (ch.state = .starved ∨ ch.state = .active) ∧ ch.fetch ≠ ch.producer ∧ ch.list.length < 3
      ∧ (∀ r, ch.list.getLast? = some r → ∀ why, r.state ≠ .poisoned why) ∧ ch.descRead = .none
    (∃ w1 w2 w3, t = { s with port := { s.port with wait1 := w1, wait2 := w2, wait3 := w3 } })
    ∧ (∀ k, k ≠ c → (∀ p, t.port.waitData p k = s.port.waitData p k) ∧ t.port.waitDesc k = s.port.waitDesc k)
    ∧ (∀ p, p ≠ pr → t.port.waitData p c = s.port.waitData p c)
    ∧ (s.device.state = .running → (t.port.waitData pr c = true ↔ data) ∧ (t.port.waitDesc c = true ↔ desc))
    ∧ (s.device.state ≠ .running → (t.port.waitData pr c = true ↔ data ∧ s.port.waitData pr c = true)
        ∧ (t.port.waitDesc c = true ↔ desc ∧ s.port.waitDesc c = true))

/-- The arbiter's choice (R126, R127, R133): in RUNNING the lowest class with an eligible request, and in classes 1 to 3 the first
channel after the class's pointer; in LOADING the CONFIG_READ alone; in every other state, and with no free entry,
nothing. A channel whose request waits is eligible while it is below the port's limit and its conditions still hold
(assumption log 17). A grant is a step of its own (assumption log 4), and one with nothing to grant changes nothing (log 2). -/
def Obligations.GrantOrder : Prop :=
  ∀ s : State,
    ((∀ tag, s.port.entry tag ≠ none) → exec .grant s = .next s)
    ∧ (s.device.state = .off ∨ s.device.state = .faulted ∨ s.device.state = .resetting → exec .grant s = .next s)
    ∧ ∀ tag, s.port.FirstFree tag →
      let granted := fun g => exec .grant s = .next (s.grantChosen tag g)
      (s.device.state = .loading → .configRead ∈ s.port.wait4 → granted (.class4 .configRead))
      ∧ (s.device.state = .loading → .configRead ∉ s.port.wait4 → exec .grant s = .next s)
      ∧ (s.device.state = .running →
        let cpl := s.port.wait0 = true ∧ s.writer.wantsWrite = true
        let data := fun pr c => s.port.waitData pr c = true ∧ s.port.data c < 2 ∧ (s.chan c).wantsData (s.port.data c) = true
        let desc := fun c => s.port.waitDesc c = true ∧ s.port.desc c < 1 ∧ (s.chan c).wantsDesc = true
        (cpl → granted .cpl)
        ∧ (∀ c, ¬ cpl → FirstAfter s.port.ptr1 (data .urgent) c → granted (.data .urgent c))
        ∧ (¬ cpl → (∀ c, ¬ data .urgent c) →
          (∀ c, FirstAfter s.port.ptr2 (data .normal) c → granted (.data .normal c))
          ∧ ((∀ c, ¬ data .normal c) →
            (∀ c, FirstAfter s.port.ptr3 desc c → granted (.desc c))
            ∧ ((∀ c, ¬ desc c) →
              (∀ r rest, s.port.wait4 = r :: rest → granted (.class4 r))
              ∧ (s.port.wait4 = [] → exec .grant s = .next s)))))

/-- The completion write (R105, R106, R128): class 0, before every other request, of the oldest entry, 32 bytes with the PHASE, to
queue position write index modulo size, into the lowest free entry; one write is outstanding from then on.

The 32 bytes of a completion record (spec/11, R105, R172): each field in its place, low byte first, PHASE in bit 0 of byte 2. -/
def Obligations.CompletionWriteGrantedWhole : Prop :=
  (
  ∀ (s : State) (q : Queue) (x : Completion) (rest : List Completion) (tag : TagId), s.device.state = .running →
    s.port.FirstFree tag → s.port.wait0 = true → s.writer.queue = some q → s.writer.list = x :: rest →
    s.writer.outstanding = false → (s.writer.writeIndex - s.writer.hostHead).toNat < q.size →
    let write : Transaction :=
      { kind := .cplWrite, cls := 0, channel := none,
        address := q.base + BitVec.ofNat 64 (s.writer.writeIndex.toNat % q.size * 32), length := 32,
        bytes := x.bytes s.writer.phase, ref := .plain }
    exec .grant s = .next { s with
      port := { s.port with table := s.port.table.set tag.val (some write), wait0 := false }
      writer := { s.writer with outstanding := true } })
  ∧
  (
  ∀ (x : Completion) (phase : Bool), let bs := x.bytes phase
    bs.length = 32
    ∧ (byteAt bs 0).extractLsb' 0 4 = (match x.kind with
        | .commandDone => 1 | .bufferDone => 2 | .linkEvent => 3 | .deviceEvent => 4)
    ∧ (byteAt bs 0).extractLsb' 4 4 = x.command
    ∧ byteAt bs 1 = (match x.status with
        | .ok | .done => 0x00 | .unknownCommand => 0x01 | .badParam => 0x02 | .notOpen => 0x03 | .alreadyOpen => 0x04
        | .stillMapped => 0x05 | .mapped => 0x06 | .busy => 0x07 | .notHalted => 0x08 | .linkActive => 0x09 | .linkOff => 0x0A
        | .notConfigured => 0x0B | .mapInvalid => 0x0C | .windowFault => 0x0D | .inUse => 0x0E | .busError => 0x0F
        | .partialFrames => 0x10 | .aborted => 0x11 | .badDescriptor => 0x12)
    ∧ byteAt bs 2 = BitVec.ofNat 8 (phase.toNat + 2 * x.flags.overrun.toNat + 4 * x.flags.underrun.toNat
        + 8 * x.flags.gap.toNat + 16 * x.flags.wrapped.toNat + 32 * x.flags.tagAbsent.toNat)
    ∧ byteAt bs 3 = x.source ∧ u32At bs 4 = x.tag ∧ u16At bs 8 = x.ring ∧ u16At bs 10 = x.consumed
    ∧ u32At bs 12 = x.v0 ∧ u32At bs 16 = x.v1 ∧ u32At bs 20 = x.v2 ∧ u32At bs 24 = x.v3 ∧ u32At bs 28 = x.stamp)

/-- The first grant of a data request, a flush write of a GRACEFUL RX close among them (R50, R73, R75, R77, R127, R128): the frames
it carries, its address, length and bytes in either layout, the groups that leave the FIFO or are reserved in it, and the
progress of the CURRENT record. Where it issues the last frame, the pass ends in the same change (R90, R93): `Channel.passEnd`,
of which PassEndDrainsOrRepeats says what it does; a last pass with no record behind it leaves its record DRAINING and the
channel STARVED.

The later lanes of a PLANAR request (R77, R78): lane k of the request in formation, k being the lanes issued so far, at address
plus (k * F + first frame) * b. -/
def Obligations.DataGrantsFixContent : Prop :=
  (
  ∀ (s : State) (tag : TagId) (pr : Priority) (c : ChanId) (r : BufferRecord),
    let ch := s.chan c
    let n := ch.cfg.lanes
    let b := ch.cfg.width / 8
    let left := r.frames - r.pass.issued
    let whole := (ch.groups.takeWhile fun g => g.cond == .whole).length
    let rx := ch.cfg.dir = .rx
    let f := if rx then min ch.cfg.threshold (min whole left) else min ch.cfg.threshold left
    (∀ q ∈ ch.requests, q.inFormation = false) → ch.current? = some r →
    let groups := (ch.groups.take f).map fun g => g.samples.map fun x => x.getD 0
    let q : DataRequest :=
      { id := ch.freshId, ring := r.ring, pass := r.pass.count, first := r.pass.issued, count := f,
        lanes := if ch.cfg.layout = .planar then n else 1, issued := 1, answered := 0, error := false, cut := false,
        absorbed := false, flush := decide (ch.state = .closing), samples := if rx then groups else [] }
    let t : Transaction :=
      { kind := if rx then .rxWrite else .txRead, cls := if pr = .urgent then 1 else 2, channel := some c,
        address := r.address + BitVec.ofNat 64 (if ch.cfg.layout = .planar then r.pass.issued * b else r.pass.issued * n * b),
        length := if ch.cfg.layout = .planar then f * b else f * n * b,
        bytes := if rx then (if ch.cfg.layout = .planar then groups.flatMap fun g => sampleBytes ch.cfg.width (g.getD 0 0)
          else groups.flatMap fun g => g.flatMap (sampleBytes ch.cfg.width)) else [],
        ref := .data q.id 0 }
    let issuing : Channel :=
      { ch with
        requests := ch.requests ++ [q]
        groups := if rx then ch.groups.drop f else ch.groups ++ (List.range f).map fun i =>
          { cond := .waiting, samples := List.replicate n none, stamp := none,
            source := some { ring := r.ring, pass := r.pass.count, frame := r.pass.issued + i }, nextLane := 0 }
        list := ch.list.map fun x => if x.state = .current then
          { x with pass := { x.pass with
              issued := x.pass.issued + f
              stamp := if rx ∧ r.pass.issued = 0 then (ch.groups.take f).head?.bind Group.stamp else r.pass.stamp } } else x }
    let granted : State := { s with port := s.port.dataGranted tag pr c t }
    s.grantChosen tag (.data pr c) = granted.update c (issuing.passEnd, [])
    ∧ (ch.Settled → (ch.state = .closing → ∀ x ∈ ch.list, x.state = .current → x.ring = r.ring) →
      (r.pass.issued + f < r.frames → s.grantChosen tag (.data pr c) = granted.put c issuing)
      ∧ (r.pass.issued + f = r.frames → ch.state = .active → r.repeated = false → (∀ x ∈ ch.list, x.untouched = false) →
        (∀ x ∈ ch.list, x.state = .current → x.ring = r.ring) →
        s.grantChosen tag (.data pr c) = granted.put c { issuing with
          state := .starved
          list := issuing.list.map fun x => if x.state = .current then { x with state := .draining } else x })))
  ∧
  (
  ∀ (s : State) (tag : TagId) (pr : Priority) (c : ChanId) (r : BufferRecord) (before after : List DataRequest)
    (q : DataRequest) (older newer : List BufferRecord),
    let ch := s.chan c
    let b := ch.cfg.width / 8
    ch.Settled → ch.state ≠ .closing → ch.cfg.layout = .planar → ch.Splits before q after → q.inFormation = true →
    (∀ x ∈ before, x.inFormation = false) → q.answered ≤ q.issued → ch.Holds older r newer → r.ring = q.ring →
    let t : Transaction :=
      { kind := if ch.cfg.dir = .rx then .rxWrite else .txRead, cls := if pr = .urgent then 1 else 2, channel := some c,
        address := r.address + BitVec.ofNat 64 ((q.issued * r.frames + q.first) * b), length := q.count * b,
        bytes := q.samples.flatMap fun g => sampleBytes ch.cfg.width (g.getD q.issued 0),
        ref := .data q.id q.issued }
    s.grantChosen tag (.data pr c) = ({ s with port := s.port.dataGranted tag pr c t } : State).put c
      { ch with requests := before ++ { q with issued := q.issued + 1 } :: after })

/-- The grants of classes 3 and 4 (R25, R30, R80, R83, R124, R128, R148, R161): a descriptor read at the fetch position, a command read
at the head, the configuration read at the load address, and a piece of a slot list. -/
def Obligations.DescriptorAndClass4Granted : Prop :=
  ∀ (s : State) (tag : TagId),
    (∀ c, (s.chan c).Settled → (s.chan c).state ≠ .closing →
      let ch := s.chan c
      let t : Transaction :=
        { kind := .descRead, cls := 3, channel := some c,
          address := ch.cfg.ringBase + BitVec.ofNat 64 (ch.fetch.toNat % ch.cfg.ringSize * 16), length := 16, bytes := [],
          ref := .plain }
      s.grantChosen tag (.desc c) = ({ s with
        port := { s.port with
          table := s.port.table.set tag.val (some t), descCount := s.port.descCount.set c.val (s.port.desc c + 1)
          wait3 := s.port.wait3.set c.val false, ptr3 := c } } : State).put c { ch with descRead := .outstanding })
    ∧ (∀ q, s.cmd.queue = some q → s.transfer = none →
      let t : Transaction :=
        { kind := .cmdRead, cls := 4, channel := none,
          address := q.base + BitVec.ofNat 64 (s.cmd.head.toNat % q.size * 64), length := 64, bytes := [],
          ref := .head s.cmd.head }
      s.grantChosen tag (.class4 .cmdRead) = { s with
        port := { s.port with table := s.port.table.set tag.val (some t), wait4 := s.port.wait4.erase .cmdRead } })
    ∧ (∀ a, s.device.loadAddr = some a → s.transfer = none →
      let t : Transaction :=
        { kind := .configRead, cls := 4, channel := none, address := a, length := 32, bytes := [], ref := .plain }
      s.grantChosen tag (.class4 .configRead) = { s with
        port := { s.port with table := s.port.table.set tag.val (some t), wait4 := s.port.wait4.erase .configRead } })
    ∧ ∀ x k offset length, s.transfer = some x → x.pieces[k]? = some (offset, length) →
      let t : Transaction :=
        { kind := if x.dir = .readList then .listRead else .listWrite, cls := 4, channel := none,
          address := x.base + BitVec.ofNat 64 offset, length := length,
          bytes := if x.dir = .readList then [] else (x.copy.drop offset).take length, ref := .piece k }
      s.grantChosen tag (.class4 (.listPiece k)) = { s with
        port := { s.port with table := s.port.table.set tag.val (some t), wait4 := s.port.wait4.erase (.listPiece k) }
        transfer := some { x with issued := x.issued + 1 } }

/-! ## Responses -/

/-- The response to a completion write (R107, R117): OKAY takes the entry off the pending list, advances the write index, inverts the
phase at a multiple of the size, counts one entry written and asks for the next write; ERROR keeps the entry and the index
and hands the fault to Device Control. -/
def Obligations.CompletionWriteAnswered : Prop :=
  ∀ (s : State) (tag : TagId) (t : Transaction) (q : Queue), s.port.entry tag = some t → t.kind = .cplWrite →
    s.writer.queue = some q → s.device.state ≠ .resetting →
    let ended : State := { s.answered tag t with writer := { s.writer with outstanding := false } }
    (exec (.cplWriteResponse tag .error) s = .next (ended.enterFault .cplWriteError))
    ∧ ∃ u : State, exec (.cplWriteResponse tag .okay) s = .next u
      ∧ u.writer = { s.writer with
          list := s.writer.list.tail, outstanding := false, writeIndex := s.writer.writeIndex + 1
          phase := if (s.writer.writeIndex + 1).toNat % q.size = 0 then !s.writer.phase else s.writer.phase }
      ∧ (s.coal.counter + 1 = s.coal.count → u.coal = { s.coal with counter := 0, timer := none }
          ∧ u.irqCause = { s.irqCause with completion := true })
      ∧ (s.coal.counter + 1 ≠ s.coal.count → u.irqCause = s.irqCause
          ∧ u.coal = { s.coal with counter := s.coal.counter + 1
                                   timer := if s.coal.counter = 0 then some 0 else s.coal.timer })
      ∧ (s.device.state = .running → u.port = { s.port.freed tag t with
          wait0 := !s.writer.list.tail.isEmpty
            && decide ((s.writer.writeIndex + 1 - s.writer.hostHead).toNat < q.size) })
      ∧ (s.device.state ≠ .running → u.port = s.port.freed tag t)
      ∧ u = { s with writer := u.writer, coal := u.coal, irqCause := u.irqCause, port := u.port }

/-- RX_WRITE_RESPONSE answered OKAY (R53, R73, R78, R95, R96), of a record that is CURRENT, DRAINING or ENDING and of a channel in
any state, a CLOSING one too: a response that is not the last of its request frees its place. The last one of a request answered
OKAY throughout counts its frames as moved and as answered in their record, or as moved alone where their pass has been folded into
it; of a request with a lane in ERROR, or cut, the frames are lost. Here the record goes on: another request of it is in flight,
or it is the CURRENT one of an open channel or of a flush with groups left. Where it ends is LastWriteRetiresRecord.

For an ended pass of a REPEAT record (R88, R94, R101): while frames of it are in flight, it takes the count; with the last of them it
leaves the record, and with NOTIFY set its BUFFER_DONE, DONE with WRAPPED, joins the pass completions waiting, oldest pass first.
The record stays CURRENT, and the consumed index does not move. That the pass completion carries the record's own ring index where
every older record is RETIRING is the model's reading (assumption log 35). -/
def Obligations.ReceiveWriteAnsweredOkay : Prop :=
  (
  ∀ (s : State) (tag : TagId) (t : Transaction) (c : ChanId) (before after : List DataRequest) (q : DataRequest)
    (older newer : List BufferRecord) (r : BufferRecord), s.device.state ≠ .resetting → s.port.entry tag = some t →
    t.kind = .rxWrite → t.OfRequest c q.id →
    let ch := s.chan c
    ch.Settled → ch.cfg.dir = .rx → ch.Splits before q after → ch.Holds older r newer →
    r.ring = q.ring → (r.state = .current ∨ r.state = .draining ∨ r.state = .ending) →
    let last := q.answered + 1 = q.issued ∧ (q.issued = q.lanes ∨ q.cut = true)
    let flushes := ch.state = .closing ∧ (∃ tag, ch.closeRec = some { mode := .graceful, tag := tag }) ∧ ch.groups ≠ []
    let goesOn := (∃ x ∈ before ++ after, x.ring = r.ring)
      ∨ r.state = .current ∧ (ch.state ≠ .closing ∧ r.finalStatus = .done ∨ flushes)
    let whole := q.error = false ∧ q.cut = false
    let answered := fun ch' => exec (.rxWriteResponse tag .okay) s = .next ((s.answered tag t).put c ch')
    (¬ last → answered { ch with requests := before ++ { q with answered := q.answered + 1 } :: after })
    ∧ (last → goesOn → whole → r.pass.count = q.pass → answered { ch with
        requests := before ++ after, moved := ch.moved + BitVec.ofNat 32 q.count
        list := older ++ { r with pass := { r.pass with answered := r.pass.answered + q.count } } :: newer })
    ∧ (last → goesOn → whole → r.pass.count ≠ q.pass → r.ended = [] → answered { ch with
        requests := before ++ after, moved := ch.moved + BitVec.ofNat 32 q.count })
    ∧ (last → goesOn → ¬ whole → answered { ch with
        requests := before ++ after, lost := ch.lost + BitVec.ofNat 32 q.count }))
  ∧
  (
  ∀ (s : State) (tag : TagId) (t : Transaction) (c : ChanId) (before after : List DataRequest) (q : DataRequest)
    (older newer : List BufferRecord) (r : BufferRecord) (first later : List Pass) (p : Pass),
    s.device.state ≠ .resetting → s.port.entry tag = some t → t.kind = .rxWrite → t.OfRequest c q.id →
    let ch := s.chan c
    ch.Settled → ch.state ≠ .closing → ch.cfg.dir = .rx → ch.Splits before q after → ch.Holds older r newer →
    r.ring = q.ring → r.state = .current → r.finalStatus = .done → r.ended = first ++ p :: later → p.count = q.pass →
    r.pass.count ≠ p.count → (∀ x ∈ first ++ later, x.count ≠ p.count) → q.answered + 1 = q.issued →
    q.issued = q.lanes → q.error = false → q.cut = false →
    let took := { p with answered := p.answered + q.count }
    let done : Completion :=
      { kind := .bufferDone, command := 0, status := .done,
        flags := { overrun := p.overrun, underrun := p.underrun, gap := p.gap, wrapped := true, tagAbsent := r.tagAbsent },
        source := BitVec.ofNat 8 c.val, tag := r.tag.setWidth 32, ring := r.ring, consumed := ch.consumed,
        v0 := BitVec.ofNat 32 took.answered, v1 := report32 p.count, v2 := p.tally, v3 := 0, stamp := p.stamp.getD 0 }
    let leaves := fun (r' : BufferRecord) => exec (.rxWriteResponse tag .okay) s = .next ((s.answered tag t).put c
      { ch with
        requests := before ++ after, moved := ch.moved + BitVec.ofNat 32 q.count, list := older ++ r' :: newer })
    (took.answered < r.frames → leaves { r with ended := first ++ took :: later })
    ∧ (r.frames ≤ took.answered → r.notify = false → leaves { r with ended := first ++ later })
    ∧ (r.frames ≤ took.answered → r.notify = true → (∀ x ∈ r.passCpls, x.1 < p.count) →
        leaves { r with ended := first ++ later, passCpls := r.passCpls ++ [(p.count, done)] })
    ∧ (r.frames ≤ took.answered → r.notify = true → (∀ x ∈ r.passCpls, p.count < x.1) →
        leaves { r with ended := first ++ later, passCpls := (p.count, done) :: r.passCpls }))

/-- The last write of a record answered OKAY (R50 to R53, R91, R92, R96, R101): the record retires with its status. A DRAINING
one has DONE, or what a close gave it; an ENDING one what the halt fixed; a CURRENT one of a CLOSING channel the status of an
ABORT, or at the end of a GRACEFUL flush PARTIAL, each giving way to a BUS_ERROR before it. Its window reference is let go,
buffers_done counts it, and with NOTIFY set or a status other than DONE its BUFFER_DONE is formed, with the frames answered. The
frames of a request answered OKAY throughout are moved; those of one with a lane in ERROR, or cut, are lost. That a record whose
last request was cut completes with the same status as another, DONE for a DRAINING one, is the model's reading (assumption
log 11: deduced). -/
def Obligations.LastWriteRetiresRecord : Prop :=
  ∀ (s : State) (tag : TagId) (t : Transaction) (c : ChanId) (before after : List DataRequest) (q : DataRequest)
    (older newer : List BufferRecord) (r : BufferRecord) (w : WinId) (st : Status), s.device.state ≠ .resetting →
    s.port.entry tag = some t → t.kind = .rxWrite → t.OfRequest c q.id →
    let ch := s.chan c
    ch.Settled → ch.cfg.dir = .rx → ch.Splits before q after → ch.Holds older r newer → r.ring = q.ring →
    r.ended = [] → r.window = some w → (∀ x ∈ before ++ after, x.ring ≠ r.ring) →
    q.answered + 1 = q.issued → (q.issued = q.lanes ∨ q.cut = true) →
    let graceful := ∃ tag, ch.closeRec = some { mode := .graceful, tag := tag }
    ((r.state = .draining ∨ r.state = .ending) ∧ st = r.finalStatus
      ∨ r.state = .current ∧ ch.state = .closing ∧ ¬ graceful ∧ r.finalStatus ≠ .done ∧ st = r.finalStatus
      ∨ r.state = .current ∧ ch.state = .closing ∧ graceful ∧ ch.groups = []
        ∧ st = (if r.finalStatus = .done then .partialFrames else r.finalStatus)) →
    (r.notify = true ∨ st ≠ .done) →
    let whole := q.error = false ∧ q.cut = false
    let p := if whole ∧ r.pass.count = q.pass then { r.pass with answered := r.pass.answered + q.count } else r.pass
    let all := older ++ { r with state := .retiring } :: newer
    let consumed := match all.find? fun x => x.state != .retiring with
      | some x => x.ring
      | none => (match all.getLast? with
        | some x => x.ring + 1
        | none => ch.fetch)
    ∃ u done, exec (.rxWriteResponse tag .okay) s = .next u ∧ OnlyChannels (· = c) (s.answered tag t) u
      ∧ (u.window w).use = (s.window w).use - 1
      ∧ u.chan c = { ch with
          requests := before ++ after, buffersDone := ch.buffersDone + 1, consumed := consumed
          moved := if whole then ch.moved + BitVec.ofNat 32 q.count else ch.moved
          lost := if whole then ch.lost else ch.lost + BitVec.ofNat 32 q.count
          list := older
            ++ { r with pass := p, state := .retiring, window := none, finalStatus := st, completion := some done } :: newer }
      ∧ done.kind = .bufferDone ∧ done.status = st ∧ done.source = BitVec.ofNat 8 c.val
      ∧ done.tag = r.tag.setWidth 32 ∧ done.ring = r.ring ∧ done.consumed = consumed
      ∧ done.v0 = BitVec.ofNat 32 p.answered ∧ done.v1 = report32 p.count ∧ done.v2 = p.tally
      ∧ done.stamp = p.stamp.getD 0
      ∧ done.flags = { overrun := p.overrun, underrun := p.underrun, gap := p.gap, wrapped := r.folded,
                       tagAbsent := r.tagAbsent }

/-- A data transaction answered ERROR (R53, R56, R57, R73, R95, R96, R99). Of an open channel that is neither halted nor closing, not
absorbed: the channel halts with BUS_ERROR, its FIFO is discarded, the records not begun are released, its own record completes
BUS_ERROR and the others that had begun ABORTED. Absorbed, or on a HALTED or CLOSING channel: no claim arises, the state and its
cause stay (a close may end), and its record completes BUS_ERROR; a flush write ends the flush. The frames of a failed receive
write are lost, those of the FIFO discarded with it too. Three of its clauses are the model's readings: that an absorbed TX read
of a HALTED channel makes its record complete BUS_ERROR, as R96 says of writes (assumption log 13); that an ERROR on one lane of
a PLANAR flush write ends the request with its lost count (log 12); and that an ERROR on a write issued before the close leaves
the groups to the flush, which goes on (log 29). -/
def Obligations.DataErrorHaltsUnlessAbsorbed : Prop :=
  ∀ (s : State) (tag : TagId) (t : Transaction) (c : ChanId) (before after : List DataRequest) (q : DataRequest) (e : Instr),
    s.device.state ≠ .resetting → s.port.entry tag = some t → t.OfRequest c q.id → (s.chan c).Splits before q after →
    (t.kind = .rxWrite ∧ e = .rxWriteResponse tag .error ∨ t.kind = .txRead ∧ e = .txReadResponse tag .error) →
    ∃ u, exec e s = .next u ∧ OnlyChannels (· = c) (s.answered tag t) u
      ∧ let ch := s.chan c
        (((ch.state = .starved ∨ ch.state = .active) ∧ q.absorbed = false →
          (u.chan c).state = .halted ∧ (u.chan c).haltCause = some .busError ∧ (u.chan c).groups = []
          ∧ (∀ x ∈ (u.chan c).list, x.state ≠ .current ∧ x.state ≠ .draining ∧ x.state ≠ .next)
          ∧ (∀ x ∈ (u.chan c).requests, x.absorbed = true) ∧ (u.chan c).descRead ≠ .outstanding)
        ∧ (ch.state = .halted ∨ (ch.state ≠ .closing ∧ q.absorbed = true) →
          (u.chan c).state = ch.state ∧ (u.chan c).haltCause = ch.haltCause ∧ (u.chan c).groups = ch.groups)
        ∧ (ch.state = .closing →
          ((u.chan c).state = .closing ∧ (u.chan c).closeRec = ch.closeRec ∨ (u.chan c).state = .closed)
          ∧ (u.chan c).haltCause = ch.haltCause ∧ (u.chan c).groups = if q.flush then [] else ch.groups)
        ∧ (∀ x ∈ ch.list, (x.state = .current ∨ x.state = .draining) → x.finalStatus = .done →
          (ch.state = .starved ∨ ch.state = .active) → q.absorbed = false →
            ∃ y ∈ (u.chan c).list, y.ring = x.ring ∧ (y.state = .ending ∨ y.state = .retiring)
              ∧ y.finalStatus = if x.ring = q.ring then .busError else .aborted)
        ∧ (∀ x ∈ ch.list, (x.state = .current ∨ x.state = .draining ∨ x.state = .ending) → x.ring = q.ring →
          (ch.state = .halted ∨ ch.state = .closing ∨ q.absorbed = true) →
            ∃ y ∈ (u.chan c).list, y.ring = x.ring ∧ y.finalStatus = .busError)
        ∧ (ch.Settled → ch.cfg.dir = .rx → (∀ x ∈ before ++ after, x.inFormation = false) → q.answered + 1 = q.issued →
          q.issued ≤ q.lanes →
          (((ch.state = .starved ∨ ch.state = .active) ∧ q.absorbed = false) ∨ (ch.state = .closing ∧ q.flush = true) →
            (u.chan c).lost = ch.lost + BitVec.ofNat 32 q.count + BitVec.ofNat 32 ch.groups.length)
          ∧ (ch.state = .halted → q.issued = q.lanes ∨ q.cut = true → (u.chan c).lost = ch.lost + BitVec.ofNat 32 q.count)))

/-- TX_READ_RESPONSE answered OKAY (R53, R76, R96): the samples of an INTERLEAVED read fill the WAITING groups reserved for its frames,
each lane in its place, and those groups are WHOLE; a PLANAR read fills its lane alone, and a group becomes WHOLE with its last
missing lane (R78). The groups of other reads are not touched. On a HALTED or CLOSING channel, and where the read was absorbed, the
data is dropped and no group changes; the last response of a record whose outcome a halt or a close has fixed completes it with that
status and the frames departed. -/
def Obligations.TransmitReadFillsItsGroups : Prop :=
  ∀ (s : State) (tag : TagId) (t : Transaction) (c : ChanId) (before after : List DataRequest) (q : DataRequest)
    (older newer : List BufferRecord) (r : BufferRecord) (bs : List Byte), s.device.state ≠ .resetting →
    s.port.entry tag = some t → t.kind = .txRead → t.OfRequest c q.id → bs.length = t.length →
    let ch := s.chan c
    ch.Settled → ch.cfg.dir = .tx → 1 ≤ ch.cfg.lanes → ch.Splits before q after → ch.Holds older r newer → r.ring = q.ring →
    (r.state = .current ∨ r.state = .draining ∨ r.state = .ending) →
    let n := ch.cfg.lanes
    let sample := fun i => if ch.cfg.width = 8 then (byteAt bs i).setWidth 16 else u16At bs (i * 2)
    let last := q.answered + 1 = q.issued ∧ (q.issued = q.lanes ∨ q.cut = true)
    let requests := before ++ (if last then [] else [{ q with answered := q.answered + 1 }]) ++ after
    let others := ∃ x ∈ before ++ after, x.ring = r.ring
    let begun := r.state ≠ .ending ∧ r.finalStatus = .done ∧ r.pass.finished < r.frames
    let dropped := ch.state = .halted ∨ ch.state = .closing ∨ q.absorbed = true
    let fills := (ch.state = .starved ∨ ch.state = .active) ∧ q.absorbed = false ∧ (¬ last ∨ others ∨ begun)
    let filled := fun (groups : List Group) => exec (.txReadResponse tag (.okay bs)) s = .next ((s.answered tag t).put c
      { ch with requests := requests, groups := groups })
    (dropped → ¬ last ∨ others ∨ begun → filled ch.groups)
    ∧ (dropped → last → ¬ others → r.state = .ending ∨ r.finalStatus ≠ .done → r.notify = true ∨ r.finalStatus ≠ .done →
        (∀ x ∈ r.ended, x.finished < r.frames) →
        ∃ u done, exec (.txReadResponse tag (.okay bs)) s = .next u ∧ OnlyChannels (· = c) (s.answered tag t) u
          ∧ u.chan c = { ch with
              requests := before ++ after, buffersDone := ch.buffersDone + 1
              consumed := consumedIndex (older ++ { r with state := .retiring } :: newer) ch.fetch
              list := older ++ { r with state := .retiring, window := none, completion := some done } :: newer }
          ∧ done = bufferDone c .tx r r.pass r.finalStatus r.folded
              (consumedIndex (older ++ { r with state := .retiring } :: newer) ch.fetch))
    ∧ (∀ k, fills → ch.cfg.layout = .planar → t.ref = .data q.id k →
        filled (ch.groups.map fun g => match g.source with
          | some src =>
            if g.cond = .waiting ∧ src.ring = q.ring ∧ src.pass = q.pass ∧ q.first ≤ src.frame
                ∧ src.frame < q.first + q.count then
              { g with samples := g.samples.set k (some (sample (src.frame - q.first)))
                       cond := if (g.samples.set k (some (sample (src.frame - q.first)))).all Option.isSome then .whole
                         else .waiting }
            else g
          | none => g))
    ∧ (fills → ch.cfg.layout = .interleaved →
        filled (ch.groups.map fun g => match g.source with
            | some src =>
              if g.cond = .waiting ∧ src.ring = q.ring ∧ src.pass = q.pass ∧ q.first ≤ src.frame
                  ∧ src.frame < q.first + q.count then
                { g with cond := .whole
                         samples := (List.range n).map fun k => some (sample ((src.frame - q.first) * n + k)) }
              else g
            | none => g))

/-- DESC_READ_RESPONSE (R84 to R87, R97, R98): an absorbed one is dropped; a valid descriptor whose buffer lies in a window joins as NEXT
behind a CURRENT record, whatever NEXT records stand there, or becomes CURRENT at once, the first descriptor of an empty list
among them; a poisoned one waits behind a CURRENT record, or halts the channel with its reason; an ERROR halts it with
BUS_ERROR. At the ERROR every begun record completes ABORTED with its frames answered or departed, at once or with the last answer
of its own transactions, every NEXT record ABORTED with 0 frames, and buffers_done counts those that complete at once (R98); at the
poisoned record's halt a TX DRAINING record completes so, and an RX DRAINING one with a write unanswered goes on (R97). RETIRING
records are unchanged in both. -/
def Obligations.DescriptorReadAnswered : Prop :=
  ∀ (s : State) (tag : TagId) (t : Transaction) (c : ChanId), s.device.state ≠ .resetting →
    s.port.entry tag = some t → t.kind = .descRead → t.channel = some c →
    let ch := s.chan c
    let free := s.answered tag t
    let busy := fun x : BufferRecord => ∃ q ∈ ch.requests, q.ring = x.ring ∧ q.answered ≠ q.issued
    let frames := fun x : BufferRecord => match ch.cfg.dir with
      | .rx => x.pass.answered
      | .tx => x.pass.departed
    let begun := fun x : BufferRecord => (x.state = .current ∨ x.state = .draining) ∧ x.finalStatus = .done
    let aborted := fun (u : State) (x : BufferRecord) (waits : Prop) => ∃ y ∈ (u.chan c).list, y.ring = x.ring
      ∧ y.finalStatus = .aborted ∧ (waits → y.state = .ending ∧ y.window = x.window)
      ∧ (¬ waits → y.state = .retiring ∧ y.window = none
        ∧ ∃ d, y.completion = some d ∧ d.kind = .bufferDone ∧ d.status = .aborted ∧ d.source = BitVec.ofNat 8 c.val
          ∧ d.ring = x.ring ∧ d.tag = x.tag.setWidth 32 ∧ d.v0 = BitVec.ofNat 32 (frames x) ∧ d.v1 = report32 x.pass.count
          ∧ d.stamp = x.pass.stamp.getD 0)
    let kept := fun (u : State) (x : BufferRecord) => ∃ y ∈ (u.chan c).list, y.ring = x.ring ∧ y.state = .retiring
      ∧ y.completion = x.completion ∧ y.finalStatus = x.finalStatus
    let counted := ch.list.filter fun x => x.state == .next
      || (x.state == .current || x.state == .draining) && ch.requests.all fun q => q.ring != x.ring
    let inOrder := (∀ q ∈ ch.requests, q.issued ≤ q.lanes) ∧ ch.requests.Pairwise fun q q' => q.id ≠ q'.id
    ch.Settled → ch.state ≠ .closing →
    (ch.descRead = .absorbed → ∀ res, (∀ bs, res = .okay bs → bs.length = t.length) →
      exec (.descReadResponse tag res) s = .next (free.put c { ch with descRead := .none }))
    ∧ (ch.descRead = .outstanding → (ch.state = .starved ∨ ch.state = .active) →
      (∃ u, exec (.descReadResponse tag .error) s = .next u ∧ OnlyChannels (· = c) free u
        ∧ (u.chan c).state = .halted ∧ (u.chan c).haltCause = some .busError ∧ (u.chan c).fetch = ch.fetch + 1
        ∧ (u.chan c).groups = []
        ∧ (∃ x ∈ (u.chan c).list, x.ring = ch.fetch ∧ x.tagAbsent = true ∧ x.state = .retiring ∧ x.finalStatus = .busError)
        ∧ (inOrder → ∀ x ∈ ch.list, begun x → aborted u x (busy x))
        ∧ (∀ x ∈ ch.list, x.state = .next → aborted u x False)
        ∧ (∀ x ∈ ch.list, x.state = .retiring → x.completion.isSome → kept u x)
        ∧ ((∀ x ∈ ch.list, x.state = .retiring ∨ x.state = .ending ∨ x.state = .next ∨ begun x) →
            (∀ q ∈ ch.requests, q.answered ≠ q.issued) →
            (u.chan c).buffersDone = ch.buffersDone + BitVec.ofNat 32 counted.length))
      ∧ ∀ bs, bs.length = t.length →
        let b := ch.cfg.width / 8
        let address := (u64At bs 0).toNat
        let frames := (u16At bs 8).toNat
        let malformed := (byteAt bs 12).toNat ≥ 4 ∨ byteAt bs 13 ≠ 0 ∨ byteAt bs 14 ≠ 0 ∨ byteAt bs 15 ≠ 0 ∨ frames = 0
          ∨ address % b ≠ 0
        let access := match ch.cfg.dir with
          | .rx => Access.write
          | .tx => Access.read
        let fresh := fun (n : Nat) (gap : Bool) => ({
          count := n, stamp := none, issued := 0, answered := 0, departed := 0, finished := 0, overrun := false,
          underrun := false, gap := gap, tally := 0 } : Pass)
        let valid := fun (w : WinId) (st : RecState) (gap : Bool) => ({
          ring := ch.fetch, tag := u16At bs 10, tagAbsent := false, notify := (byteAt bs 12).getLsbD 0,
          repeated := (byteAt bs 12).getLsbD 1, address := u64At bs 0, frames := frames, window := some w, state := st,
          pass := fresh 1 gap, ended := [], passCpls := [], folded := false, finalStatus := .done,
          completion := none } : BufferRecord)
        let poisoned := fun (why : HaltCause) => ({
          ring := ch.fetch, tag := u16At bs 10, tagAbsent := false, notify := false, repeated := false, address := 0,
          frames := 0, window := none, state := .poisoned why, pass := fresh 0 false, ended := [], passCpls := [],
          folded := false, finalStatus := .done, completion := none } : BufferRecord)
        let joined := fun x => { ch with descRead := .none, fetch := ch.fetch + 1, list := ch.list ++ [x] }
        let claimed := fun (w : WinId) => free.setWindow w (s.window w).claimed
        let answer := exec (.descReadResponse tag (.okay bs)) s
        (∀ x, ch.list.getLast? = some x → x.ring + 1 = ch.fetch) →
        (∀ w x, ¬ malformed → s.Picks address (frames * ch.cfg.lanes * b) access w → 1 ≤ ch.cfg.lanes → 1 ≤ b →
          ch.current? = some x → answer = .next ((claimed w).put c (joined (valid w .next false))))
        ∧ (∀ w, ¬ malformed → s.Picks address (frames * ch.cfg.lanes * b) access w → 1 ≤ ch.cfg.lanes → 1 ≤ b →
          ch.current? = none → (∀ x ∈ ch.list, x.untouched = false) → (∀ x ∈ ch.list, x.ring ≠ ch.fetch) →
          answer = .next ((claimed w).put c
            { joined (valid w .current ch.gapMark) with state := .active, gapMark := false }))
        ∧ (∀ x, malformed → ch.current? = some x → answer = .next (free.put c (joined (poisoned .badDescriptor))))
        ∧ (∀ x, ¬ malformed → s.PicksNone address (frames * ch.cfg.lanes * b) access → 1 ≤ ch.cfg.lanes → 1 ≤ b →
          ch.current? = some x → answer = .next (free.put c (joined (poisoned .windowFault))))
        ∧ ∀ why st, (malformed ∧ why = .badDescriptor ∧ st = .badDescriptor
            ∨ ¬ malformed ∧ s.PicksNone address (frames * ch.cfg.lanes * b) access ∧ 1 ≤ ch.cfg.lanes ∧ 1 ≤ b
              ∧ why = .windowFault ∧ st = .windowFault) →
          ch.current? = none → (∀ x ∈ ch.list, x.untouched = false) → ∃ u, answer = .next u ∧ OnlyChannels (· = c) free u
          ∧ (u.chan c).state = .halted ∧ (u.chan c).haltCause = some why ∧ (u.chan c).groups = []
          ∧ (∃ x ∈ (u.chan c).list, x.ring = ch.fetch ∧ x.state = .retiring ∧ x.finalStatus = st)
          ∧ (inOrder → ∀ x ∈ ch.list, x.state = .draining → x.finalStatus = .done →
            (ch.cfg.dir = .tx → aborted u x (busy x))
            ∧ (ch.cfg.dir = .rx → busy x → ∃ y ∈ (u.chan c).list, y.ring = x.ring ∧ y.state = .draining
                ∧ y.finalStatus = .done ∧ y.pass = x.pass ∧ y.window = x.window))
          ∧ (∀ x ∈ ch.list, x.state = .retiring → x.completion.isSome → kept u x))

/-- CMD_READ_RESPONSE (R148, R149, R156): in FETCHING the 64 bytes come in hand and a reservation is asked for, which is granted in the
same change where it can be; in STOPPED they are discarded; an ERROR is a device fault. -/
def Obligations.CommandReadAnswered : Prop :=
  ∀ (s : State) (tag : TagId) (t : Transaction) (bs : List Byte), s.device.state ≠ .resetting →
    s.port.entry tag = some t → t.kind = .cmdRead → bs.length = t.length →
    let waiting : State := { s.answered tag t with cmd := { s.cmd with inHand := some bs, state := .waitSpace } }
    (s.cmd.state = .fetching → s.device.state = .running → s.Grantable →
      exec (.cmdReadResponse tag (.okay bs)) s = .next waiting.granted)
    ∧ (s.cmd.state = .fetching → ¬ (s.device.state = .running ∧ s.Grantable) →
      exec (.cmdReadResponse tag (.okay bs)) s = .next waiting)
    ∧ (s.cmd.state = .stopped → exec (.cmdReadResponse tag (.okay bs)) s = .next (s.answered tag t))
    ∧ exec (.cmdReadResponse tag .error) s = .next ((s.answered tag t).enterFault .cmdReadError)

/-- LIST_READ_RESPONSE and LIST_WRITE_RESPONSE (R25 to R27, R30): a response that is not the last is counted, and an ERROR withdraws
the pieces not yet granted. At the last one the window is let go, and the command completes: BUS_ERROR after an ERROR, OK for a
copy written, and for a list read BAD_PARAM with the first bad position, or OK with every entry in the standby bank. A transfer
that a device fault has stopped ends without a completion and without touching the bank. -/
def Obligations.ListTransferAnswered : Prop :=
  ∀ (s : State) (tag : TagId) (t : Transaction) (x : ListTransfer) (k : Nat) (c : Instr) (bs : List Byte) (ok : Bool),
    s.device.state ≠ .resetting → s.port.entry tag = some t → t.ref = .piece k → s.transfer = some x → bs.length = t.length →
    let read := t.kind = .listRead ∧ x.dir = .readList
      ∧ (ok = true ∧ c = .listReadResponse tag (.okay bs) ∨ ok = false ∧ c = .listReadResponse tag .error)
    let write := t.kind = .listWrite ∧ x.dir = .writeCopy
      ∧ (ok = true ∧ c = .listWriteResponse tag .okay ∨ ok = false ∧ c = .listWriteResponse tag .error)
    read ∨ write →
    let y := { x with answered := x.answered + 1, error := x.error || !ok
                      held := if ok = true ∧ x.dir = .readList then x.held ++ [(k, bs)] else x.held }
    let free : State := { s with port := if y.error then
      { s.port.freed tag t with wait4 := s.port.wait4.filter fun r => r = .cmdRead ∨ r = .configRead } else s.port.freed tag t }
    let last := y.answered = y.issued ∧ (y.issued = y.pieces.length ∨ y.error = true ∨ y.stopped = true)
    let ended : State := { free with
      windows := s.windows.set x.window.val { s.window x.window with use := (s.window x.window).use - 1 }, transfer := none }
    let report := fun (st : Status) => doneReport (if x.dir = .readList then 5 else 7) x.tag st
      (BitVec.ofNat 8 x.link.val) (s.link x.link).frame
    (¬ last → exec c s = .next { free with transfer := some y })
    ∧ (last → x.stopped = true → exec c s = .next ended)
    ∧ (last → x.stopped = false → s.device.state = .running →
      (y.error = true → exec c s = .next (ended.doneWith (report .busError)))
      ∧ (write → y.error = false → exec c s = .next (ended.doneWith (report .ok)))
      ∧ (read → y.error = false → ∀ n, firstBad (wordsOf y.list) = some n →
          exec c s = .next (ended.doneWith { report .badParam with v0 := BitVec.ofNat 32 n, v1 := 1 }))
      ∧ (read → y.error = false → firstBad (wordsOf y.list) = none →
          exec c s = .next ((ended.setMap x.link { s.map x.link with
            standby := (s.map x.link).standby.apply (wordsOf y.list) }).doneWith (report .ok))))

/-! ## The end of a pass, admission and the coalescer -/

/-- When the issue progress of the CURRENT record has reached its frame count (R50, R90, R93, R94, R97): a last pass drains the record, and
the oldest NEXT record becomes CURRENT, taking up a Gap mark, or the channel is STARVED, or a poisoned record halts it; a
REPEAT record that is not on its last pass begins another, unless four pass completions wait (the pass number is unbounded:
assumption log 19). A GRACEFUL receive flush that has filled the buffer drains the record, and the groups that remain are lost.
Before that nothing happens. -/
def Obligations.PassEndDrainsOrRepeats : Prop :=
  (∀ (ch : Channel) (older newer : List BufferRecord) (r : BufferRecord), ch.Holds older r newer → r.state = .current →
    (∀ x ∈ older ++ newer, x.state ≠ .current) →
    (r.pass.issued < r.frames → ch.passEnd = ch)
    ∧ (ch.state = .closing → ch.cfg.dir = .rx → r.frames ≤ r.pass.issued →
        ch.passEnd = { ch with
          list := older ++ { r with state := .draining } :: newer, groups := [], gapMark := false, idleFrame := none
          lost := ch.lost + BitVec.ofNat 32 ch.groups.length }))
  ∧
  ∀ (ch : Channel) (older newer : List BufferRecord) (r : BufferRecord), ch.state = .active → ch.Holds older r newer →
    r.state = .current → (∀ x ∈ older, x.state = .draining ∨ x.state = .ending ∨ x.state = .retiring) →
    r.frames ≤ r.pass.issued →
    let drained := { r with state := .draining }
    let last := r.repeated = false ∨ newer ≠ [] ∨ 1 < (ch.producer - r.ring).toNat
    (last → newer = [] → ch.passEnd = { ch with state := .starved, list := older ++ [drained] })
    ∧ (∀ x rest, newer = x :: rest → x.state = .next → (∀ y ∈ older ++ rest, y.ring ≠ x.ring) →
        (∀ y ∈ rest, y.state ≠ .current) →
        ch.passEnd = { ch with
          gapMark := false
          list := older ++ drained
            :: { x with state := .current, pass := { x.pass with gap := x.pass.gap || ch.gapMark } } :: rest })
    ∧ (∀ x rest why, newer = x :: rest → x.state = .poisoned why →
        ch.passEnd.state = .halted ∧ ch.passEnd.haltCause = some why ∧ ch.passEnd.groups = [])
    ∧ (¬ last → r.passCpls.length < 4 →
        ch.passEnd = { ch with list := older ++ [{ r with
          ended := r.ended ++ [r.pass]
          pass := { count := r.pass.count + 1, stamp := none, issued := 0, answered := 0, departed := 0, finished := 0,
                    overrun := false, underrun := false, gap := false, tally := 0 } }] })
    ∧ (¬ last → 4 ≤ r.passCpls.length → ch.passEnd = ch)

/-- ADMISSION (R110 to R112): while RUNNING with a place free, one candidate: the lowest link's event record, else the device event
record, else the command's reservation while fewer than 24 are held, else the first channel after the pointer that offers a
completion. Without a place or a candidate nothing changes (assumption log 2: the model's choice). An admission is a step of its
own (assumption log 4). Once admitted, a channel's completion is no longer there: a RETIRING record leaves the list with those
behind it that have nothing to deliver, and a pass-end decision that waits is made again (R92, R94).

What a channel offers (R92, R94, R109, R112): the oldest ended-pass completion of the oldest record, once no older pass of it is in
flight, else the completion of that record when it is RETIRING.

What LINK_EVENT and DEVICE_EVENT carry (R17, R114, R115, R172). -/
def Obligations.AdmissionOrderAndOffers : Prop :=
  (
  ∀ s : State,
    let place := s.device.state = .running ∧ s.writer.list.length + s.writer.reservations < 32
    let noLink := ∀ l, (s.link l).event = none
    let wants := s.cmd.state = .waitSpace ∧ s.writer.reservations < 24
    let entered := fun (u : State) (x : Completion) => ({ u with
      writer := { u.writer with list := u.writer.list ++ [x] }
      port := { u.port with wait0 := u.writer.queue.any fun q =>
        !u.writer.outstanding && decide ((u.writer.writeIndex - u.writer.hostHead).toNat < q.size) } } : State)
    (¬ place → exec .admission s = .next s)
    ∧ (place →
      (∀ l e, (s.link l).event = some e → (∀ k, k < l → (s.link k).event = none) →
        exec .admission s = .next (entered (s.setLink l { s.link l with event := none }) (linkEventDone l e)))
      ∧ (noLink →
        (∀ e, s.writer.devEvent = some e →
          exec .admission s = .next (entered { s with writer := { s.writer with devEvent := none } } (deviceEventDone e)))
        ∧ (s.writer.devEvent = none →
          (wants → exec .admission s = .next { s with
            writer := { s.writer with reservations := s.writer.reservations + 1 }
            cmd := { s.cmd with state := .taking, reserved := true } })
          ∧ (¬ wants →
            ((∀ c, (s.chan c).offers = none) → exec .admission s = .next s)
            ∧ ∀ c x, FirstAfter s.writer.pointer (fun c => (s.chan c).offers.isSome) c → (s.chan c).offers = some x →
                let taken := entered { s with writer := { s.writer with pointer := c } } x
                exec .admission s = .next (taken.update c ((s.chan c).delivered.passEnd, []))
                ∧ ∀ r rest, (s.chan c).list = r :: rest → (s.chan c).Settled → (s.chan c).state ≠ .closing →
                    (∀ y, (s.chan c).current? = some y → y.pass.issued < y.frames) →
                    (r.passCpls = [] → r.state = .retiring →
                      exec .admission s = .next (taken.put c
                        { s.chan c with list := rest.dropWhile BufferRecord.gone }))
                    ∧ ∀ y ps, r.passCpls = y :: ps → (r.state ≠ .retiring ∨ r.completion.isSome ∨ ps ≠ []) →
                      exec .admission s = .next (taken.put c
                        { s.chan c with list := { r with passCpls := ps } :: rest }))))))
  ∧
  (
  ∀ (ch : Channel) (r : BufferRecord) (rest : List BufferRecord), ch.list = r :: rest →
    (∀ n x ps, r.passCpls = (n, x) :: ps →
      ((∀ p ∈ r.ended, n < p.count) → ch.offers = some x)
      ∧ (¬ (∀ p ∈ r.ended, n < p.count) → ch.offers = none)
      ∧ ch.delivered = { ch with list := { r with passCpls := ps } :: rest })
    ∧ (r.passCpls = [] → r.state = .retiring →
      ch.offers = r.completion ∧ ch.delivered = { ch with list := { r with completion := none } :: rest })
    ∧ (r.passCpls = [] → r.state ≠ .retiring → ch.offers = none))
  ∧
  (
  let plain := fun (kind : CplKind) (source : Byte) => ({
    kind := kind, command := 0, status := .ok,
    flags := { overrun := false, underrun := false, gap := false, wrapped := false, tagAbsent := false },
    source := source, tag := 0, ring := 0, consumed := 0, v0 := 0, v1 := 0, v2 := 0, v3 := 0, stamp := 0 } : Completion)
  (∀ (l : LinkId) (e : LinkEvent), linkEventDone l e = { plain .linkEvent (BitVec.ofNat 8 l.val) with
    v0 := BitVec.ofNat 32 (e.locked.toNat + 2 * e.lost.toNat + 4 * e.slip.toNat)
    v1 := BitVec.ofNat 32 e.slips, v2 := BitVec.ofNat 32 e.losses
    v3 := match e.linkState with
      | .off => 0
      | .hunting => 1
      | .locked => 2
    stamp := e.stamp })
  ∧ ∀ e : DeviceEvent,
    deviceEventDone e = { plain .deviceEvent (match e.channel with
        | some c => BitVec.ofNat 8 c.val
        | none => 0) with
      v0 := BitVec.ofNat 32 ((match e.first with
          | .post => 1
          | .tail => 2
          | .head => 3) + 256 * e.seenPost.toNat + 512 * e.seenTail.toNat + 1024 * e.seenHead.toNat)
      v1 := e.index
      v2 := match e.reason with
        | .notOpen => 1
        | .range => 2
      v3 := BitVec.ofNat 32 e.merged })

/-- The coalescer's events (R117): the firing at a count reached or at the tick that reaches a non-zero T sets COMPLETION, clears the
counter and stops the timer; every other tick adds a microsecond to a running timer. The count is tested where an entry is
counted, so COALESCING_COUNT_REACHED of its own finds nothing to do in a state that the part reaches (assumption log 5).
COALESCING_TIMER_EXPIRY is the tick that reaches T (assumption log 20), and where either row's condition does not hold it changes
nothing (assumption log 20, 2): the model's choices. -/
def Obligations.CoalescerFires : Prop :=
  ∀ s : State,
    let fired : State := { s with coal := { s.coal with counter := 0, timer := none }
                                  irqCause := { s.irqCause with completion := true } }
    (0 < s.coal.counter ∧ s.coal.count ≤ s.coal.counter → exec .coalescingCountReached s = .next fired)
    ∧ (¬ (0 < s.coal.counter ∧ s.coal.count ≤ s.coal.counter) → exec .coalescingCountReached s = .next s)
    ∧ (s.device.resetLow = false →
      (∀ e, s.coal.timer = some e → s.coal.time ≠ 0 → e + 1 = s.coal.time →
        exec .coalescingTimerExpiry s = .next fired ∧ exec .timebaseTick s = .next fired)
      ∧ (∀ e, s.coal.timer = some e → (s.coal.time = 0 ∨ e + 1 ≠ s.coal.time) →
        exec .coalescingTimerExpiry s = .next s
        ∧ exec .timebaseTick s = .next { s with coal := { s.coal with timer := some (e + 1) } })
      ∧ (s.coal.timer = none → exec .coalescingTimerExpiry s = .next s ∧ exec .timebaseTick s = .next s))

/-! ## Reset and the laws that every step keeps -/

/-- What reset leaves (R1, R20, R21, R40, R62, R80, R103, R117, R119, R120, R124, R135, R145, R158), and the laws below at
reset. State.reset is the part after RESETn has gone high, with no command waiting, no bit clock to come and no free byte used
(assumption log 1, 7 and 9); that no link has sampled FSY low, and no bit of RXD, is the model's choice (assumption log 6). -/
def Obligations.ResetValues : Prop :=
  let s := State.reset
  (∀ l, s.link l = { config := none, state := .off, missed := 0, frame := 0, bitPos := none, launched := 0,
                     completed := 0, event := none, txd := none, fsyLow := false, rxBits := 0 }
    ∧ (∀ i : SlotId, (s.map l).active[i.val] = { rx := none, tx := none } ∧ (s.map l).standby[i.val] = { rx := none, tx := none })
    ∧ (s.map l).swapPending = false ∧ (s.map l).swapTag = none)
  ∧ (∀ c, (s.chan c).state = .closed ∧ (s.chan c).config = none ∧ (s.chan c).ringWindow = none ∧ (s.chan c).haltCause = none
    ∧ (s.chan c).closeRec = none ∧ (s.chan c).moved = 0 ∧ (s.chan c).lost = 0 ∧ (s.chan c).discarded = 0
    ∧ (s.chan c).buffersDone = 0 ∧ (s.chan c).groups = [] ∧ (s.chan c).idleFrame = none ∧ (s.chan c).gapMark = false
    ∧ (s.chan c).producer = 0 ∧ (s.chan c).fetch = 0 ∧ (s.chan c).consumed = 0 ∧ (s.chan c).descRead = .none
    ∧ (s.chan c).list = [] ∧ (s.chan c).requests = []
    ∧ s.port.data c = 0 ∧ s.port.desc c = 0 ∧ s.port.waitDesc c = false ∧ ∀ p, s.port.waitData p c = false)
  ∧ (∀ w, s.window w = { enabled := false, base := 0, limit := 0, read := false, write := false, use := 0 })
  ∧ s.transfer = none ∧ s.port.Empty ∧ s.port.wait0 = false ∧ s.port.wait4 = []
  ∧ s.port.ptr1 = 63 ∧ s.port.ptr2 = 63 ∧ s.port.ptr3 = 63
  ∧ s.cmd = { queue := none, head := 0, tail := 0, state := .stopped, inHand := none, reserved := false }
  ∧ s.writer = { queue := none, writeIndex := 0, phase := true, hostHead := 0, outstanding := false, list := [],
                 reservations := 0, devEvent := none, pointer := 63 }
  ∧ s.coal = { count := 1, time := 0, counter := 0, timer := none }
  ∧ s.irqCause = { completion := false, fault := false } ∧ s.irqMask = { completion := false, fault := false }
  ∧ s.intn = false ∧ s.device.state = .off ∧ s.device.fault = .none ∧ s.device.configAddr = 0 ∧ s.device.loadAddr = none
  ∧ s.freeBytes = 0 ∧ s.pending = [] ∧ s.clocks = []
  ∧ s.PortLaw ∧ s.LinkLaw ∧ s.UseLaw ∧ s.RoomLaw ∧ s.WindowLaw ∧ s.PhaseLaw ∧ s.CoalescerLaw ∧ s.AddressLaw ∧ s.Quiet

/-- Every step keeps the Memory Port's counts equal to the entries in use, with at most 2 data transactions and 1 descriptor read of
a channel outstanding (R124, R126, R128, R129). -/
def Obligations.StepKeepsPortLaw : Prop :=
  ∀ s t : State, s.PortLaw → step s = .next t → t.PortLaw

/-- Every step keeps the law of the links: configured unless OFF, and with values in range, TXD driven and a bit position held in
LOCKED alone, the missed-sync count at most 2, a held event record at the link's state, and a swap pending on a LOCKED link alone
while the device is neither FAULTED nor RESETTING (R3 to R5, R10, R14, R15, R18 to R20). That the bit position lies in the slot
launched last, each slot launched before it completes, rests on R6 and R13 and on the model's choices of assumption log 2 (a slot
event out of order has no effect) and log 6 (the bit position at the rows between bit clocks). -/
def Obligations.StepKeepsLinkLaw : Prop :=
  ∀ s t : State, s.LinkLaw → step s = .next t → t.LinkLaw

/-- Every step keeps each window's use count equal to the number of its holders (R135, R138, R139): no reference is lost and none is
let go twice. -/
def Obligations.StepKeepsUseLaw : Prop :=
  ∀ s t : State, s.UseLaw → step s = .next t → t.UseLaw

/-- Every step keeps each staging FIFO within its 32 samples (R63) and each buffer list within 3 records (R92). -/
def Obligations.StepKeepsFifoRoomAndHeldRecords : Prop :=
  ∀ s t : State, s.RoomLaw → step s = .next t → t.RoomLaw

/-- Every step keeps each of: enabled windows are whole pages (R135, R141); PHASE is that of the next entry (R105); the coalescer's
counter is below N, and its timer runs exactly while the counter is above 0 and below a T that is not 0 (R117, R118); the
configuration address is a multiple of 32 (R158); no data request stands answered and unended (R73, R78). -/
def Obligations.StepKeepsRegisterLaws : Prop :=
  ∀ s t : State, step s = .next t →
    (s.WindowLaw → t.WindowLaw) ∧ (s.PhaseLaw → t.PhaseLaw) ∧ (s.CoalescerLaw → t.CoalescerLaw)
    ∧ (s.AddressLaw → t.AddressLaw) ∧ (s.Quiet → t.Quiet)
end

