-- ==== Sys2Proof/Laws/State.lean ====
section
/-! SUPPORT. One lemma per field per update of State and of Port: true by unfolding, for simp. -/

namespace Sys2Proof.Machine

/-! ## Updates of State -/

@[simp] theorem State.setLink_device (s : State) (l : LinkId) (x : Link) : (s.setLink l x).device = s.device := rfl
@[simp] theorem State.setLink_maps (s : State) (l : LinkId) (x : Link) : (s.setLink l x).maps = s.maps := rfl
@[simp] theorem State.setLink_transfer (s : State) (l : LinkId) (x : Link) : (s.setLink l x).transfer = s.transfer := rfl
@[simp] theorem State.setLink_chans (s : State) (l : LinkId) (x : Link) : (s.setLink l x).chans = s.chans := rfl
@[simp] theorem State.setLink_windows (s : State) (l : LinkId) (x : Link) : (s.setLink l x).windows = s.windows := rfl
@[simp] theorem State.setLink_port (s : State) (l : LinkId) (x : Link) : (s.setLink l x).port = s.port := rfl
@[simp] theorem State.setLink_cmd (s : State) (l : LinkId) (x : Link) : (s.setLink l x).cmd = s.cmd := rfl
@[simp] theorem State.setLink_writer (s : State) (l : LinkId) (x : Link) : (s.setLink l x).writer = s.writer := rfl
@[simp] theorem State.setLink_coal (s : State) (l : LinkId) (x : Link) : (s.setLink l x).coal = s.coal := rfl
@[simp] theorem State.setLink_irqCause (s : State) (l : LinkId) (x : Link) : (s.setLink l x).irqCause = s.irqCause := rfl
@[simp] theorem State.setLink_irqMask (s : State) (l : LinkId) (x : Link) : (s.setLink l x).irqMask = s.irqMask := rfl
@[simp] theorem State.setLink_pending (s : State) (l : LinkId) (x : Link) : (s.setLink l x).pending = s.pending := rfl
@[simp] theorem State.setLink_freeBytes (s : State) (l : LinkId) (x : Link) : (s.setLink l x).freeBytes = s.freeBytes := rfl
@[simp] theorem State.setLink_clocks (s : State) (l : LinkId) (x : Link) : (s.setLink l x).clocks = s.clocks := rfl
@[simp] theorem State.setLink_map (s : State) (l : LinkId) (x : Link) (k : LinkId) : (s.setLink l x).map k = s.map k := rfl
@[simp] theorem State.setLink_chan (s : State) (l : LinkId) (x : Link) (k : ChanId) : (s.setLink l x).chan k = s.chan k := rfl
@[simp] theorem State.setLink_window (s : State) (l : LinkId) (x : Link) (k : WinId) : (s.setLink l x).window k = s.window k := rfl
@[simp] theorem State.setLink_link_same (s : State) (l : LinkId) (x : Link) : (s.setLink l x).link l = x := by
  simp [State.setLink, State.link]
theorem State.setLink_link (s : State) (l k : LinkId) (x : Link) :
    (s.setLink l x).link k = if k = l then x else s.link k := by
  simp only [State.setLink, State.link, Vector.getElem_set, Fin.ext_iff, eq_comm]
theorem State.setLink_link_other (s : State) (l k : LinkId) (x : Link) (h : k ≠ l) : (s.setLink l x).link k = s.link k := by
  rw [State.setLink_link, if_neg h]

@[simp] theorem State.setMap_device (s : State) (l : LinkId) (x : SlotMap) : (s.setMap l x).device = s.device := rfl
@[simp] theorem State.setMap_links (s : State) (l : LinkId) (x : SlotMap) : (s.setMap l x).links = s.links := rfl
@[simp] theorem State.setMap_transfer (s : State) (l : LinkId) (x : SlotMap) : (s.setMap l x).transfer = s.transfer := rfl
@[simp] theorem State.setMap_chans (s : State) (l : LinkId) (x : SlotMap) : (s.setMap l x).chans = s.chans := rfl
@[simp] theorem State.setMap_windows (s : State) (l : LinkId) (x : SlotMap) : (s.setMap l x).windows = s.windows := rfl
@[simp] theorem State.setMap_port (s : State) (l : LinkId) (x : SlotMap) : (s.setMap l x).port = s.port := rfl
@[simp] theorem State.setMap_cmd (s : State) (l : LinkId) (x : SlotMap) : (s.setMap l x).cmd = s.cmd := rfl
@[simp] theorem State.setMap_writer (s : State) (l : LinkId) (x : SlotMap) : (s.setMap l x).writer = s.writer := rfl
@[simp] theorem State.setMap_coal (s : State) (l : LinkId) (x : SlotMap) : (s.setMap l x).coal = s.coal := rfl
@[simp] theorem State.setMap_irqCause (s : State) (l : LinkId) (x : SlotMap) : (s.setMap l x).irqCause = s.irqCause := rfl
@[simp] theorem State.setMap_irqMask (s : State) (l : LinkId) (x : SlotMap) : (s.setMap l x).irqMask = s.irqMask := rfl
@[simp] theorem State.setMap_pending (s : State) (l : LinkId) (x : SlotMap) : (s.setMap l x).pending = s.pending := rfl
@[simp] theorem State.setMap_freeBytes (s : State) (l : LinkId) (x : SlotMap) : (s.setMap l x).freeBytes = s.freeBytes := rfl
@[simp] theorem State.setMap_clocks (s : State) (l : LinkId) (x : SlotMap) : (s.setMap l x).clocks = s.clocks := rfl
@[simp] theorem State.setMap_link (s : State) (l : LinkId) (x : SlotMap) (k : LinkId) : (s.setMap l x).link k = s.link k := rfl
@[simp] theorem State.setMap_chan (s : State) (l : LinkId) (x : SlotMap) (k : ChanId) : (s.setMap l x).chan k = s.chan k := rfl
@[simp] theorem State.setMap_window (s : State) (l : LinkId) (x : SlotMap) (k : WinId) : (s.setMap l x).window k = s.window k := rfl
@[simp] theorem State.setMap_map_same (s : State) (l : LinkId) (x : SlotMap) : (s.setMap l x).map l = x := by
  simp [State.setMap, State.map]
theorem State.setMap_map (s : State) (l k : LinkId) (x : SlotMap) :
    (s.setMap l x).map k = if k = l then x else s.map k := by
  simp only [State.setMap, State.map, Vector.getElem_set, Fin.ext_iff, eq_comm]
theorem State.setMap_map_other (s : State) (l k : LinkId) (x : SlotMap) (h : k ≠ l) : (s.setMap l x).map k = s.map k := by
  rw [State.setMap_map, if_neg h]

@[simp] theorem State.setChan_device (s : State) (c : ChanId) (x : Channel) : (s.setChan c x).device = s.device := rfl
@[simp] theorem State.setChan_links (s : State) (c : ChanId) (x : Channel) : (s.setChan c x).links = s.links := rfl
@[simp] theorem State.setChan_maps (s : State) (c : ChanId) (x : Channel) : (s.setChan c x).maps = s.maps := rfl
@[simp] theorem State.setChan_transfer (s : State) (c : ChanId) (x : Channel) : (s.setChan c x).transfer = s.transfer := rfl
@[simp] theorem State.setChan_windows (s : State) (c : ChanId) (x : Channel) : (s.setChan c x).windows = s.windows := rfl
@[simp] theorem State.setChan_port (s : State) (c : ChanId) (x : Channel) : (s.setChan c x).port = s.port := rfl
@[simp] theorem State.setChan_cmd (s : State) (c : ChanId) (x : Channel) : (s.setChan c x).cmd = s.cmd := rfl
@[simp] theorem State.setChan_writer (s : State) (c : ChanId) (x : Channel) : (s.setChan c x).writer = s.writer := rfl
@[simp] theorem State.setChan_coal (s : State) (c : ChanId) (x : Channel) : (s.setChan c x).coal = s.coal := rfl
@[simp] theorem State.setChan_irqCause (s : State) (c : ChanId) (x : Channel) : (s.setChan c x).irqCause = s.irqCause := rfl
@[simp] theorem State.setChan_irqMask (s : State) (c : ChanId) (x : Channel) : (s.setChan c x).irqMask = s.irqMask := rfl
@[simp] theorem State.setChan_pending (s : State) (c : ChanId) (x : Channel) : (s.setChan c x).pending = s.pending := rfl
@[simp] theorem State.setChan_freeBytes (s : State) (c : ChanId) (x : Channel) : (s.setChan c x).freeBytes = s.freeBytes := rfl
@[simp] theorem State.setChan_clocks (s : State) (c : ChanId) (x : Channel) : (s.setChan c x).clocks = s.clocks := rfl
@[simp] theorem State.setChan_link (s : State) (c : ChanId) (x : Channel) (k : LinkId) : (s.setChan c x).link k = s.link k := rfl
@[simp] theorem State.setChan_map (s : State) (c : ChanId) (x : Channel) (k : LinkId) : (s.setChan c x).map k = s.map k := rfl
@[simp] theorem State.setChan_window (s : State) (c : ChanId) (x : Channel) (k : WinId) : (s.setChan c x).window k = s.window k := rfl
@[simp] theorem State.setChan_chan_same (s : State) (c : ChanId) (x : Channel) : (s.setChan c x).chan c = x := by
  simp [State.setChan, State.chan]
theorem State.setChan_chan (s : State) (c k : ChanId) (x : Channel) :
    (s.setChan c x).chan k = if k = c then x else s.chan k := by
  simp only [State.setChan, State.chan, Vector.getElem_set, Fin.ext_iff, eq_comm]
theorem State.setChan_chan_other (s : State) (c k : ChanId) (x : Channel) (h : k ≠ c) : (s.setChan c x).chan k = s.chan k := by
  rw [State.setChan_chan, if_neg h]

@[simp] theorem State.setWindow_device (s : State) (w : WinId) (x : Window) : (s.setWindow w x).device = s.device := rfl
@[simp] theorem State.setWindow_links (s : State) (w : WinId) (x : Window) : (s.setWindow w x).links = s.links := rfl
@[simp] theorem State.setWindow_maps (s : State) (w : WinId) (x : Window) : (s.setWindow w x).maps = s.maps := rfl
@[simp] theorem State.setWindow_transfer (s : State) (w : WinId) (x : Window) : (s.setWindow w x).transfer = s.transfer := rfl
@[simp] theorem State.setWindow_chans (s : State) (w : WinId) (x : Window) : (s.setWindow w x).chans = s.chans := rfl
@[simp] theorem State.setWindow_port (s : State) (w : WinId) (x : Window) : (s.setWindow w x).port = s.port := rfl
@[simp] theorem State.setWindow_cmd (s : State) (w : WinId) (x : Window) : (s.setWindow w x).cmd = s.cmd := rfl
@[simp] theorem State.setWindow_writer (s : State) (w : WinId) (x : Window) : (s.setWindow w x).writer = s.writer := rfl
@[simp] theorem State.setWindow_coal (s : State) (w : WinId) (x : Window) : (s.setWindow w x).coal = s.coal := rfl
@[simp] theorem State.setWindow_irqCause (s : State) (w : WinId) (x : Window) : (s.setWindow w x).irqCause = s.irqCause := rfl
@[simp] theorem State.setWindow_irqMask (s : State) (w : WinId) (x : Window) : (s.setWindow w x).irqMask = s.irqMask := rfl
@[simp] theorem State.setWindow_pending (s : State) (w : WinId) (x : Window) : (s.setWindow w x).pending = s.pending := rfl
@[simp] theorem State.setWindow_freeBytes (s : State) (w : WinId) (x : Window) : (s.setWindow w x).freeBytes = s.freeBytes := rfl
@[simp] theorem State.setWindow_clocks (s : State) (w : WinId) (x : Window) : (s.setWindow w x).clocks = s.clocks := rfl
@[simp] theorem State.setWindow_link (s : State) (w : WinId) (x : Window) (k : LinkId) : (s.setWindow w x).link k = s.link k := rfl
@[simp] theorem State.setWindow_map (s : State) (w : WinId) (x : Window) (k : LinkId) : (s.setWindow w x).map k = s.map k := rfl
@[simp] theorem State.setWindow_chan (s : State) (w : WinId) (x : Window) (k : ChanId) : (s.setWindow w x).chan k = s.chan k := rfl
@[simp] theorem State.setWindow_window_same (s : State) (w : WinId) (x : Window) : (s.setWindow w x).window w = x := by
  simp [State.setWindow, State.window]
theorem State.setWindow_window (s : State) (w k : WinId) (x : Window) :
    (s.setWindow w x).window k = if k = w then x else s.window k := by
  simp only [State.setWindow, State.window, Vector.getElem_set, Fin.ext_iff, eq_comm]
theorem State.setWindow_window_other (s : State) (w k : WinId) (x : Window) (h : k ≠ w) : (s.setWindow w x).window k = s.window k := by
  rw [State.setWindow_window, if_neg h]

@[simp] theorem State.setDevice_device (s : State) (x : Device) : (s.setDevice x).device = x := rfl
@[simp] theorem State.setDevice_links (s : State) (x : Device) : (s.setDevice x).links = s.links := rfl
@[simp] theorem State.setDevice_maps (s : State) (x : Device) : (s.setDevice x).maps = s.maps := rfl
@[simp] theorem State.setDevice_transfer (s : State) (x : Device) : (s.setDevice x).transfer = s.transfer := rfl
@[simp] theorem State.setDevice_chans (s : State) (x : Device) : (s.setDevice x).chans = s.chans := rfl
@[simp] theorem State.setDevice_windows (s : State) (x : Device) : (s.setDevice x).windows = s.windows := rfl
@[simp] theorem State.setDevice_port (s : State) (x : Device) : (s.setDevice x).port = s.port := rfl
@[simp] theorem State.setDevice_cmd (s : State) (x : Device) : (s.setDevice x).cmd = s.cmd := rfl
@[simp] theorem State.setDevice_writer (s : State) (x : Device) : (s.setDevice x).writer = s.writer := rfl
@[simp] theorem State.setDevice_coal (s : State) (x : Device) : (s.setDevice x).coal = s.coal := rfl
@[simp] theorem State.setDevice_irqCause (s : State) (x : Device) : (s.setDevice x).irqCause = s.irqCause := rfl
@[simp] theorem State.setDevice_irqMask (s : State) (x : Device) : (s.setDevice x).irqMask = s.irqMask := rfl
@[simp] theorem State.setDevice_pending (s : State) (x : Device) : (s.setDevice x).pending = s.pending := rfl
@[simp] theorem State.setDevice_freeBytes (s : State) (x : Device) : (s.setDevice x).freeBytes = s.freeBytes := rfl
@[simp] theorem State.setDevice_clocks (s : State) (x : Device) : (s.setDevice x).clocks = s.clocks := rfl
@[simp] theorem State.setDevice_link (s : State) (x : Device) (k : LinkId) : (s.setDevice x).link k = s.link k := rfl
@[simp] theorem State.setDevice_map (s : State) (x : Device) (k : LinkId) : (s.setDevice x).map k = s.map k := rfl
@[simp] theorem State.setDevice_chan (s : State) (x : Device) (k : ChanId) : (s.setDevice x).chan k = s.chan k := rfl
@[simp] theorem State.setDevice_window (s : State) (x : Device) (k : WinId) : (s.setDevice x).window k = s.window k := rfl

@[simp] theorem State.setTransfer_device (s : State) (x : Option ListTransfer) : (s.setTransfer x).device = s.device := rfl
@[simp] theorem State.setTransfer_links (s : State) (x : Option ListTransfer) : (s.setTransfer x).links = s.links := rfl
@[simp] theorem State.setTransfer_maps (s : State) (x : Option ListTransfer) : (s.setTransfer x).maps = s.maps := rfl
@[simp] theorem State.setTransfer_transfer (s : State) (x : Option ListTransfer) : (s.setTransfer x).transfer = x := rfl
@[simp] theorem State.setTransfer_chans (s : State) (x : Option ListTransfer) : (s.setTransfer x).chans = s.chans := rfl
@[simp] theorem State.setTransfer_windows (s : State) (x : Option ListTransfer) : (s.setTransfer x).windows = s.windows := rfl
@[simp] theorem State.setTransfer_port (s : State) (x : Option ListTransfer) : (s.setTransfer x).port = s.port := rfl
@[simp] theorem State.setTransfer_cmd (s : State) (x : Option ListTransfer) : (s.setTransfer x).cmd = s.cmd := rfl
@[simp] theorem State.setTransfer_writer (s : State) (x : Option ListTransfer) : (s.setTransfer x).writer = s.writer := rfl
@[simp] theorem State.setTransfer_coal (s : State) (x : Option ListTransfer) : (s.setTransfer x).coal = s.coal := rfl
@[simp] theorem State.setTransfer_irqCause (s : State) (x : Option ListTransfer) : (s.setTransfer x).irqCause = s.irqCause := rfl
@[simp] theorem State.setTransfer_irqMask (s : State) (x : Option ListTransfer) : (s.setTransfer x).irqMask = s.irqMask := rfl
@[simp] theorem State.setTransfer_pending (s : State) (x : Option ListTransfer) : (s.setTransfer x).pending = s.pending := rfl
@[simp] theorem State.setTransfer_freeBytes (s : State) (x : Option ListTransfer) : (s.setTransfer x).freeBytes = s.freeBytes := rfl
@[simp] theorem State.setTransfer_clocks (s : State) (x : Option ListTransfer) : (s.setTransfer x).clocks = s.clocks := rfl
@[simp] theorem State.setTransfer_link (s : State) (x : Option ListTransfer) (k : LinkId) : (s.setTransfer x).link k = s.link k := rfl
@[simp] theorem State.setTransfer_map (s : State) (x : Option ListTransfer) (k : LinkId) : (s.setTransfer x).map k = s.map k := rfl
@[simp] theorem State.setTransfer_chan (s : State) (x : Option ListTransfer) (k : ChanId) : (s.setTransfer x).chan k = s.chan k := rfl
@[simp] theorem State.setTransfer_window (s : State) (x : Option ListTransfer) (k : WinId) : (s.setTransfer x).window k = s.window k := rfl

@[simp] theorem State.setPort_device (s : State) (x : Port) : (s.setPort x).device = s.device := rfl
@[simp] theorem State.setPort_links (s : State) (x : Port) : (s.setPort x).links = s.links := rfl
@[simp] theorem State.setPort_maps (s : State) (x : Port) : (s.setPort x).maps = s.maps := rfl
@[simp] theorem State.setPort_transfer (s : State) (x : Port) : (s.setPort x).transfer = s.transfer := rfl
@[simp] theorem State.setPort_chans (s : State) (x : Port) : (s.setPort x).chans = s.chans := rfl
@[simp] theorem State.setPort_windows (s : State) (x : Port) : (s.setPort x).windows = s.windows := rfl
@[simp] theorem State.setPort_port (s : State) (x : Port) : (s.setPort x).port = x := rfl
@[simp] theorem State.setPort_cmd (s : State) (x : Port) : (s.setPort x).cmd = s.cmd := rfl
@[simp] theorem State.setPort_writer (s : State) (x : Port) : (s.setPort x).writer = s.writer := rfl
@[simp] theorem State.setPort_coal (s : State) (x : Port) : (s.setPort x).coal = s.coal := rfl
@[simp] theorem State.setPort_irqCause (s : State) (x : Port) : (s.setPort x).irqCause = s.irqCause := rfl
@[simp] theorem State.setPort_irqMask (s : State) (x : Port) : (s.setPort x).irqMask = s.irqMask := rfl
@[simp] theorem State.setPort_pending (s : State) (x : Port) : (s.setPort x).pending = s.pending := rfl
@[simp] theorem State.setPort_freeBytes (s : State) (x : Port) : (s.setPort x).freeBytes = s.freeBytes := rfl
@[simp] theorem State.setPort_clocks (s : State) (x : Port) : (s.setPort x).clocks = s.clocks := rfl
@[simp] theorem State.setPort_link (s : State) (x : Port) (k : LinkId) : (s.setPort x).link k = s.link k := rfl
@[simp] theorem State.setPort_map (s : State) (x : Port) (k : LinkId) : (s.setPort x).map k = s.map k := rfl
@[simp] theorem State.setPort_chan (s : State) (x : Port) (k : ChanId) : (s.setPort x).chan k = s.chan k := rfl
@[simp] theorem State.setPort_window (s : State) (x : Port) (k : WinId) : (s.setPort x).window k = s.window k := rfl

@[simp] theorem State.setCmd_device (s : State) (x : CmdProc) : (s.setCmd x).device = s.device := rfl
@[simp] theorem State.setCmd_links (s : State) (x : CmdProc) : (s.setCmd x).links = s.links := rfl
@[simp] theorem State.setCmd_maps (s : State) (x : CmdProc) : (s.setCmd x).maps = s.maps := rfl
@[simp] theorem State.setCmd_transfer (s : State) (x : CmdProc) : (s.setCmd x).transfer = s.transfer := rfl
@[simp] theorem State.setCmd_chans (s : State) (x : CmdProc) : (s.setCmd x).chans = s.chans := rfl
@[simp] theorem State.setCmd_windows (s : State) (x : CmdProc) : (s.setCmd x).windows = s.windows := rfl
@[simp] theorem State.setCmd_port (s : State) (x : CmdProc) : (s.setCmd x).port = s.port := rfl
@[simp] theorem State.setCmd_cmd (s : State) (x : CmdProc) : (s.setCmd x).cmd = x := rfl
@[simp] theorem State.setCmd_writer (s : State) (x : CmdProc) : (s.setCmd x).writer = s.writer := rfl
@[simp] theorem State.setCmd_coal (s : State) (x : CmdProc) : (s.setCmd x).coal = s.coal := rfl
@[simp] theorem State.setCmd_irqCause (s : State) (x : CmdProc) : (s.setCmd x).irqCause = s.irqCause := rfl
@[simp] theorem State.setCmd_irqMask (s : State) (x : CmdProc) : (s.setCmd x).irqMask = s.irqMask := rfl
@[simp] theorem State.setCmd_pending (s : State) (x : CmdProc) : (s.setCmd x).pending = s.pending := rfl
@[simp] theorem State.setCmd_freeBytes (s : State) (x : CmdProc) : (s.setCmd x).freeBytes = s.freeBytes := rfl
@[simp] theorem State.setCmd_clocks (s : State) (x : CmdProc) : (s.setCmd x).clocks = s.clocks := rfl
@[simp] theorem State.setCmd_link (s : State) (x : CmdProc) (k : LinkId) : (s.setCmd x).link k = s.link k := rfl
@[simp] theorem State.setCmd_map (s : State) (x : CmdProc) (k : LinkId) : (s.setCmd x).map k = s.map k := rfl
@[simp] theorem State.setCmd_chan (s : State) (x : CmdProc) (k : ChanId) : (s.setCmd x).chan k = s.chan k := rfl
@[simp] theorem State.setCmd_window (s : State) (x : CmdProc) (k : WinId) : (s.setCmd x).window k = s.window k := rfl

@[simp] theorem State.setWriter_device (s : State) (x : Writer) : (s.setWriter x).device = s.device := rfl
@[simp] theorem State.setWriter_links (s : State) (x : Writer) : (s.setWriter x).links = s.links := rfl
@[simp] theorem State.setWriter_maps (s : State) (x : Writer) : (s.setWriter x).maps = s.maps := rfl
@[simp] theorem State.setWriter_transfer (s : State) (x : Writer) : (s.setWriter x).transfer = s.transfer := rfl
@[simp] theorem State.setWriter_chans (s : State) (x : Writer) : (s.setWriter x).chans = s.chans := rfl
@[simp] theorem State.setWriter_windows (s : State) (x : Writer) : (s.setWriter x).windows = s.windows := rfl
@[simp] theorem State.setWriter_port (s : State) (x : Writer) : (s.setWriter x).port = s.port := rfl
@[simp] theorem State.setWriter_cmd (s : State) (x : Writer) : (s.setWriter x).cmd = s.cmd := rfl
@[simp] theorem State.setWriter_writer (s : State) (x : Writer) : (s.setWriter x).writer = x := rfl
@[simp] theorem State.setWriter_coal (s : State) (x : Writer) : (s.setWriter x).coal = s.coal := rfl
@[simp] theorem State.setWriter_irqCause (s : State) (x : Writer) : (s.setWriter x).irqCause = s.irqCause := rfl
@[simp] theorem State.setWriter_irqMask (s : State) (x : Writer) : (s.setWriter x).irqMask = s.irqMask := rfl
@[simp] theorem State.setWriter_pending (s : State) (x : Writer) : (s.setWriter x).pending = s.pending := rfl
@[simp] theorem State.setWriter_freeBytes (s : State) (x : Writer) : (s.setWriter x).freeBytes = s.freeBytes := rfl
@[simp] theorem State.setWriter_clocks (s : State) (x : Writer) : (s.setWriter x).clocks = s.clocks := rfl
@[simp] theorem State.setWriter_link (s : State) (x : Writer) (k : LinkId) : (s.setWriter x).link k = s.link k := rfl
@[simp] theorem State.setWriter_map (s : State) (x : Writer) (k : LinkId) : (s.setWriter x).map k = s.map k := rfl
@[simp] theorem State.setWriter_chan (s : State) (x : Writer) (k : ChanId) : (s.setWriter x).chan k = s.chan k := rfl
@[simp] theorem State.setWriter_window (s : State) (x : Writer) (k : WinId) : (s.setWriter x).window k = s.window k := rfl

@[simp] theorem State.setCoal_device (s : State) (x : Coalescer) : (s.setCoal x).device = s.device := rfl
@[simp] theorem State.setCoal_links (s : State) (x : Coalescer) : (s.setCoal x).links = s.links := rfl
@[simp] theorem State.setCoal_maps (s : State) (x : Coalescer) : (s.setCoal x).maps = s.maps := rfl
@[simp] theorem State.setCoal_transfer (s : State) (x : Coalescer) : (s.setCoal x).transfer = s.transfer := rfl
@[simp] theorem State.setCoal_chans (s : State) (x : Coalescer) : (s.setCoal x).chans = s.chans := rfl
@[simp] theorem State.setCoal_windows (s : State) (x : Coalescer) : (s.setCoal x).windows = s.windows := rfl
@[simp] theorem State.setCoal_port (s : State) (x : Coalescer) : (s.setCoal x).port = s.port := rfl
@[simp] theorem State.setCoal_cmd (s : State) (x : Coalescer) : (s.setCoal x).cmd = s.cmd := rfl
@[simp] theorem State.setCoal_writer (s : State) (x : Coalescer) : (s.setCoal x).writer = s.writer := rfl
@[simp] theorem State.setCoal_coal (s : State) (x : Coalescer) : (s.setCoal x).coal = x := rfl
@[simp] theorem State.setCoal_irqCause (s : State) (x : Coalescer) : (s.setCoal x).irqCause = s.irqCause := rfl
@[simp] theorem State.setCoal_irqMask (s : State) (x : Coalescer) : (s.setCoal x).irqMask = s.irqMask := rfl
@[simp] theorem State.setCoal_pending (s : State) (x : Coalescer) : (s.setCoal x).pending = s.pending := rfl
@[simp] theorem State.setCoal_freeBytes (s : State) (x : Coalescer) : (s.setCoal x).freeBytes = s.freeBytes := rfl
@[simp] theorem State.setCoal_clocks (s : State) (x : Coalescer) : (s.setCoal x).clocks = s.clocks := rfl
@[simp] theorem State.setCoal_link (s : State) (x : Coalescer) (k : LinkId) : (s.setCoal x).link k = s.link k := rfl
@[simp] theorem State.setCoal_map (s : State) (x : Coalescer) (k : LinkId) : (s.setCoal x).map k = s.map k := rfl
@[simp] theorem State.setCoal_chan (s : State) (x : Coalescer) (k : ChanId) : (s.setCoal x).chan k = s.chan k := rfl
@[simp] theorem State.setCoal_window (s : State) (x : Coalescer) (k : WinId) : (s.setCoal x).window k = s.window k := rfl

@[simp] theorem State.setCause_device (s : State) (x : Irq) : (s.setCause x).device = s.device := rfl
@[simp] theorem State.setCause_links (s : State) (x : Irq) : (s.setCause x).links = s.links := rfl
@[simp] theorem State.setCause_maps (s : State) (x : Irq) : (s.setCause x).maps = s.maps := rfl
@[simp] theorem State.setCause_transfer (s : State) (x : Irq) : (s.setCause x).transfer = s.transfer := rfl
@[simp] theorem State.setCause_chans (s : State) (x : Irq) : (s.setCause x).chans = s.chans := rfl
@[simp] theorem State.setCause_windows (s : State) (x : Irq) : (s.setCause x).windows = s.windows := rfl
@[simp] theorem State.setCause_port (s : State) (x : Irq) : (s.setCause x).port = s.port := rfl
@[simp] theorem State.setCause_cmd (s : State) (x : Irq) : (s.setCause x).cmd = s.cmd := rfl
@[simp] theorem State.setCause_writer (s : State) (x : Irq) : (s.setCause x).writer = s.writer := rfl
@[simp] theorem State.setCause_coal (s : State) (x : Irq) : (s.setCause x).coal = s.coal := rfl
@[simp] theorem State.setCause_irqCause (s : State) (x : Irq) : (s.setCause x).irqCause = x := rfl
@[simp] theorem State.setCause_irqMask (s : State) (x : Irq) : (s.setCause x).irqMask = s.irqMask := rfl
@[simp] theorem State.setCause_pending (s : State) (x : Irq) : (s.setCause x).pending = s.pending := rfl
@[simp] theorem State.setCause_freeBytes (s : State) (x : Irq) : (s.setCause x).freeBytes = s.freeBytes := rfl
@[simp] theorem State.setCause_clocks (s : State) (x : Irq) : (s.setCause x).clocks = s.clocks := rfl
@[simp] theorem State.setCause_link (s : State) (x : Irq) (k : LinkId) : (s.setCause x).link k = s.link k := rfl
@[simp] theorem State.setCause_map (s : State) (x : Irq) (k : LinkId) : (s.setCause x).map k = s.map k := rfl
@[simp] theorem State.setCause_chan (s : State) (x : Irq) (k : ChanId) : (s.setCause x).chan k = s.chan k := rfl
@[simp] theorem State.setCause_window (s : State) (x : Irq) (k : WinId) : (s.setCause x).window k = s.window k := rfl

@[simp] theorem State.setMask_device (s : State) (x : Irq) : (s.setMask x).device = s.device := rfl
@[simp] theorem State.setMask_links (s : State) (x : Irq) : (s.setMask x).links = s.links := rfl
@[simp] theorem State.setMask_maps (s : State) (x : Irq) : (s.setMask x).maps = s.maps := rfl
@[simp] theorem State.setMask_transfer (s : State) (x : Irq) : (s.setMask x).transfer = s.transfer := rfl
@[simp] theorem State.setMask_chans (s : State) (x : Irq) : (s.setMask x).chans = s.chans := rfl
@[simp] theorem State.setMask_windows (s : State) (x : Irq) : (s.setMask x).windows = s.windows := rfl
@[simp] theorem State.setMask_port (s : State) (x : Irq) : (s.setMask x).port = s.port := rfl
@[simp] theorem State.setMask_cmd (s : State) (x : Irq) : (s.setMask x).cmd = s.cmd := rfl
@[simp] theorem State.setMask_writer (s : State) (x : Irq) : (s.setMask x).writer = s.writer := rfl
@[simp] theorem State.setMask_coal (s : State) (x : Irq) : (s.setMask x).coal = s.coal := rfl
@[simp] theorem State.setMask_irqCause (s : State) (x : Irq) : (s.setMask x).irqCause = s.irqCause := rfl
@[simp] theorem State.setMask_irqMask (s : State) (x : Irq) : (s.setMask x).irqMask = x := rfl
@[simp] theorem State.setMask_pending (s : State) (x : Irq) : (s.setMask x).pending = s.pending := rfl
@[simp] theorem State.setMask_freeBytes (s : State) (x : Irq) : (s.setMask x).freeBytes = s.freeBytes := rfl
@[simp] theorem State.setMask_clocks (s : State) (x : Irq) : (s.setMask x).clocks = s.clocks := rfl
@[simp] theorem State.setMask_link (s : State) (x : Irq) (k : LinkId) : (s.setMask x).link k = s.link k := rfl
@[simp] theorem State.setMask_map (s : State) (x : Irq) (k : LinkId) : (s.setMask x).map k = s.map k := rfl
@[simp] theorem State.setMask_chan (s : State) (x : Irq) (k : ChanId) : (s.setMask x).chan k = s.chan k := rfl
@[simp] theorem State.setMask_window (s : State) (x : Irq) (k : WinId) : (s.setMask x).window k = s.window k := rfl

@[simp] theorem State.setPending_device (s : State) (x : List Instr) : (s.setPending x).device = s.device := rfl
@[simp] theorem State.setPending_links (s : State) (x : List Instr) : (s.setPending x).links = s.links := rfl
@[simp] theorem State.setPending_maps (s : State) (x : List Instr) : (s.setPending x).maps = s.maps := rfl
@[simp] theorem State.setPending_transfer (s : State) (x : List Instr) : (s.setPending x).transfer = s.transfer := rfl
@[simp] theorem State.setPending_chans (s : State) (x : List Instr) : (s.setPending x).chans = s.chans := rfl
@[simp] theorem State.setPending_windows (s : State) (x : List Instr) : (s.setPending x).windows = s.windows := rfl
@[simp] theorem State.setPending_port (s : State) (x : List Instr) : (s.setPending x).port = s.port := rfl
@[simp] theorem State.setPending_cmd (s : State) (x : List Instr) : (s.setPending x).cmd = s.cmd := rfl
@[simp] theorem State.setPending_writer (s : State) (x : List Instr) : (s.setPending x).writer = s.writer := rfl
@[simp] theorem State.setPending_coal (s : State) (x : List Instr) : (s.setPending x).coal = s.coal := rfl
@[simp] theorem State.setPending_irqCause (s : State) (x : List Instr) : (s.setPending x).irqCause = s.irqCause := rfl
@[simp] theorem State.setPending_irqMask (s : State) (x : List Instr) : (s.setPending x).irqMask = s.irqMask := rfl
@[simp] theorem State.setPending_pending (s : State) (x : List Instr) : (s.setPending x).pending = x := rfl
@[simp] theorem State.setPending_freeBytes (s : State) (x : List Instr) : (s.setPending x).freeBytes = s.freeBytes := rfl
@[simp] theorem State.setPending_clocks (s : State) (x : List Instr) : (s.setPending x).clocks = s.clocks := rfl
@[simp] theorem State.setPending_link (s : State) (x : List Instr) (k : LinkId) : (s.setPending x).link k = s.link k := rfl
@[simp] theorem State.setPending_map (s : State) (x : List Instr) (k : LinkId) : (s.setPending x).map k = s.map k := rfl
@[simp] theorem State.setPending_chan (s : State) (x : List Instr) (k : ChanId) : (s.setPending x).chan k = s.chan k := rfl
@[simp] theorem State.setPending_window (s : State) (x : List Instr) (k : WinId) : (s.setPending x).window k = s.window k := rfl

@[simp] theorem State.setClocks_device (s : State) (x : List BitClock) : (s.setClocks x).device = s.device := rfl
@[simp] theorem State.setClocks_links (s : State) (x : List BitClock) : (s.setClocks x).links = s.links := rfl
@[simp] theorem State.setClocks_maps (s : State) (x : List BitClock) : (s.setClocks x).maps = s.maps := rfl
@[simp] theorem State.setClocks_transfer (s : State) (x : List BitClock) : (s.setClocks x).transfer = s.transfer := rfl
@[simp] theorem State.setClocks_chans (s : State) (x : List BitClock) : (s.setClocks x).chans = s.chans := rfl
@[simp] theorem State.setClocks_windows (s : State) (x : List BitClock) : (s.setClocks x).windows = s.windows := rfl
@[simp] theorem State.setClocks_port (s : State) (x : List BitClock) : (s.setClocks x).port = s.port := rfl
@[simp] theorem State.setClocks_cmd (s : State) (x : List BitClock) : (s.setClocks x).cmd = s.cmd := rfl
@[simp] theorem State.setClocks_writer (s : State) (x : List BitClock) : (s.setClocks x).writer = s.writer := rfl
@[simp] theorem State.setClocks_coal (s : State) (x : List BitClock) : (s.setClocks x).coal = s.coal := rfl
@[simp] theorem State.setClocks_irqCause (s : State) (x : List BitClock) : (s.setClocks x).irqCause = s.irqCause := rfl
@[simp] theorem State.setClocks_irqMask (s : State) (x : List BitClock) : (s.setClocks x).irqMask = s.irqMask := rfl
@[simp] theorem State.setClocks_pending (s : State) (x : List BitClock) : (s.setClocks x).pending = s.pending := rfl
@[simp] theorem State.setClocks_freeBytes (s : State) (x : List BitClock) : (s.setClocks x).freeBytes = s.freeBytes := rfl
@[simp] theorem State.setClocks_clocks (s : State) (x : List BitClock) : (s.setClocks x).clocks = x := rfl
@[simp] theorem State.setClocks_link (s : State) (x : List BitClock) (k : LinkId) : (s.setClocks x).link k = s.link k := rfl
@[simp] theorem State.setClocks_map (s : State) (x : List BitClock) (k : LinkId) : (s.setClocks x).map k = s.map k := rfl
@[simp] theorem State.setClocks_chan (s : State) (x : List BitClock) (k : ChanId) : (s.setClocks x).chan k = s.chan k := rfl
@[simp] theorem State.setClocks_window (s : State) (x : List BitClock) (k : WinId) : (s.setClocks x).window k = s.window k := rfl

@[simp] theorem State.setFreeBytes_device (s : State) (x : Nat) : (s.setFreeBytes x).device = s.device := rfl
@[simp] theorem State.setFreeBytes_links (s : State) (x : Nat) : (s.setFreeBytes x).links = s.links := rfl
@[simp] theorem State.setFreeBytes_maps (s : State) (x : Nat) : (s.setFreeBytes x).maps = s.maps := rfl
@[simp] theorem State.setFreeBytes_transfer (s : State) (x : Nat) : (s.setFreeBytes x).transfer = s.transfer := rfl
@[simp] theorem State.setFreeBytes_chans (s : State) (x : Nat) : (s.setFreeBytes x).chans = s.chans := rfl
@[simp] theorem State.setFreeBytes_windows (s : State) (x : Nat) : (s.setFreeBytes x).windows = s.windows := rfl
@[simp] theorem State.setFreeBytes_port (s : State) (x : Nat) : (s.setFreeBytes x).port = s.port := rfl
@[simp] theorem State.setFreeBytes_cmd (s : State) (x : Nat) : (s.setFreeBytes x).cmd = s.cmd := rfl
@[simp] theorem State.setFreeBytes_writer (s : State) (x : Nat) : (s.setFreeBytes x).writer = s.writer := rfl
@[simp] theorem State.setFreeBytes_coal (s : State) (x : Nat) : (s.setFreeBytes x).coal = s.coal := rfl
@[simp] theorem State.setFreeBytes_irqCause (s : State) (x : Nat) : (s.setFreeBytes x).irqCause = s.irqCause := rfl
@[simp] theorem State.setFreeBytes_irqMask (s : State) (x : Nat) : (s.setFreeBytes x).irqMask = s.irqMask := rfl
@[simp] theorem State.setFreeBytes_freeBytes (s : State) (x : Nat) : (s.setFreeBytes x).freeBytes = x := rfl
@[simp] theorem State.setFreeBytes_link (s : State) (x : Nat) (k : LinkId) : (s.setFreeBytes x).link k = s.link k := rfl
@[simp] theorem State.setFreeBytes_map (s : State) (x : Nat) (k : LinkId) : (s.setFreeBytes x).map k = s.map k := rfl
@[simp] theorem State.setFreeBytes_chan (s : State) (x : Nat) (k : ChanId) : (s.setFreeBytes x).chan k = s.chan k := rfl
@[simp] theorem State.setFreeBytes_window (s : State) (x : Nat) (k : WinId) : (s.setFreeBytes x).window k = s.window k := rfl
@[simp] theorem State.setFreeBytes_pending (s : State) (x : Nat) : (s.setFreeBytes x).pending = s.pending := rfl
@[simp] theorem State.setFreeBytes_clocks (s : State) (x : Nat) : (s.setFreeBytes x).clocks = s.clocks := rfl

@[simp] theorem State.setLink_running (s : State) (l : LinkId) (x : Link) : (s.setLink l x).running = s.running := rfl
@[simp] theorem State.setMap_running (s : State) (l : LinkId) (x : SlotMap) : (s.setMap l x).running = s.running := rfl
@[simp] theorem State.setChan_running (s : State) (c : ChanId) (x : Channel) : (s.setChan c x).running = s.running := rfl
@[simp] theorem State.setWindow_running (s : State) (w : WinId) (x : Window) : (s.setWindow w x).running = s.running := rfl
@[simp] theorem State.setTransfer_running (s : State) (x : Option ListTransfer) : (s.setTransfer x).running = s.running := rfl
@[simp] theorem State.setPort_running (s : State) (x : Port) : (s.setPort x).running = s.running := rfl
@[simp] theorem State.setCmd_running (s : State) (x : CmdProc) : (s.setCmd x).running = s.running := rfl
@[simp] theorem State.setWriter_running (s : State) (x : Writer) : (s.setWriter x).running = s.running := rfl
@[simp] theorem State.setCoal_running (s : State) (x : Coalescer) : (s.setCoal x).running = s.running := rfl
@[simp] theorem State.setCause_running (s : State) (x : Irq) : (s.setCause x).running = s.running := rfl
@[simp] theorem State.setMask_running (s : State) (x : Irq) : (s.setMask x).running = s.running := rfl
@[simp] theorem State.setPending_running (s : State) (x : List Instr) : (s.setPending x).running = s.running := rfl
@[simp] theorem State.setClocks_running (s : State) (x : List BitClock) : (s.setClocks x).running = s.running := rfl
@[simp] theorem State.setFreeBytes_running (s : State) (x : Nat) : (s.setFreeBytes x).running = s.running := rfl

/-! ## Updates of Port -/

@[simp] theorem Port.setEntry_wait0 (p : Port) (t : TagId) (x : Option Transaction) : (p.setEntry t x).wait0 = p.wait0 := rfl
@[simp] theorem Port.setEntry_wait1 (p : Port) (t : TagId) (x : Option Transaction) : (p.setEntry t x).wait1 = p.wait1 := rfl
@[simp] theorem Port.setEntry_wait2 (p : Port) (t : TagId) (x : Option Transaction) : (p.setEntry t x).wait2 = p.wait2 := rfl
@[simp] theorem Port.setEntry_wait3 (p : Port) (t : TagId) (x : Option Transaction) : (p.setEntry t x).wait3 = p.wait3 := rfl
@[simp] theorem Port.setEntry_wait4 (p : Port) (t : TagId) (x : Option Transaction) : (p.setEntry t x).wait4 = p.wait4 := rfl
@[simp] theorem Port.setEntry_dataCount (p : Port) (t : TagId) (x : Option Transaction) : (p.setEntry t x).dataCount = p.dataCount := rfl
@[simp] theorem Port.setEntry_descCount (p : Port) (t : TagId) (x : Option Transaction) : (p.setEntry t x).descCount = p.descCount := rfl
@[simp] theorem Port.setEntry_ptr1 (p : Port) (t : TagId) (x : Option Transaction) : (p.setEntry t x).ptr1 = p.ptr1 := rfl
@[simp] theorem Port.setEntry_ptr2 (p : Port) (t : TagId) (x : Option Transaction) : (p.setEntry t x).ptr2 = p.ptr2 := rfl
@[simp] theorem Port.setEntry_ptr3 (p : Port) (t : TagId) (x : Option Transaction) : (p.setEntry t x).ptr3 = p.ptr3 := rfl
@[simp] theorem Port.setData_table (p : Port) (c : ChanId) (n : Nat) : (p.setData c n).table = p.table := rfl
@[simp] theorem Port.setData_wait0 (p : Port) (c : ChanId) (n : Nat) : (p.setData c n).wait0 = p.wait0 := rfl
@[simp] theorem Port.setData_wait1 (p : Port) (c : ChanId) (n : Nat) : (p.setData c n).wait1 = p.wait1 := rfl
@[simp] theorem Port.setData_wait2 (p : Port) (c : ChanId) (n : Nat) : (p.setData c n).wait2 = p.wait2 := rfl
@[simp] theorem Port.setData_wait3 (p : Port) (c : ChanId) (n : Nat) : (p.setData c n).wait3 = p.wait3 := rfl
@[simp] theorem Port.setData_wait4 (p : Port) (c : ChanId) (n : Nat) : (p.setData c n).wait4 = p.wait4 := rfl
@[simp] theorem Port.setData_descCount (p : Port) (c : ChanId) (n : Nat) : (p.setData c n).descCount = p.descCount := rfl
@[simp] theorem Port.setData_ptr1 (p : Port) (c : ChanId) (n : Nat) : (p.setData c n).ptr1 = p.ptr1 := rfl
@[simp] theorem Port.setData_ptr2 (p : Port) (c : ChanId) (n : Nat) : (p.setData c n).ptr2 = p.ptr2 := rfl
@[simp] theorem Port.setData_ptr3 (p : Port) (c : ChanId) (n : Nat) : (p.setData c n).ptr3 = p.ptr3 := rfl
@[simp] theorem Port.setDesc_table (p : Port) (c : ChanId) (n : Nat) : (p.setDesc c n).table = p.table := rfl
@[simp] theorem Port.setDesc_wait0 (p : Port) (c : ChanId) (n : Nat) : (p.setDesc c n).wait0 = p.wait0 := rfl
@[simp] theorem Port.setDesc_wait1 (p : Port) (c : ChanId) (n : Nat) : (p.setDesc c n).wait1 = p.wait1 := rfl
@[simp] theorem Port.setDesc_wait2 (p : Port) (c : ChanId) (n : Nat) : (p.setDesc c n).wait2 = p.wait2 := rfl
@[simp] theorem Port.setDesc_wait3 (p : Port) (c : ChanId) (n : Nat) : (p.setDesc c n).wait3 = p.wait3 := rfl
@[simp] theorem Port.setDesc_wait4 (p : Port) (c : ChanId) (n : Nat) : (p.setDesc c n).wait4 = p.wait4 := rfl
@[simp] theorem Port.setDesc_dataCount (p : Port) (c : ChanId) (n : Nat) : (p.setDesc c n).dataCount = p.dataCount := rfl
@[simp] theorem Port.setDesc_ptr1 (p : Port) (c : ChanId) (n : Nat) : (p.setDesc c n).ptr1 = p.ptr1 := rfl
@[simp] theorem Port.setDesc_ptr2 (p : Port) (c : ChanId) (n : Nat) : (p.setDesc c n).ptr2 = p.ptr2 := rfl
@[simp] theorem Port.setDesc_ptr3 (p : Port) (c : ChanId) (n : Nat) : (p.setDesc c n).ptr3 = p.ptr3 := rfl
@[simp] theorem Port.setWaitDesc_table (p : Port) (c : ChanId) (b : Bool) : (p.setWaitDesc c b).table = p.table := rfl
@[simp] theorem Port.setWaitDesc_wait0 (p : Port) (c : ChanId) (b : Bool) : (p.setWaitDesc c b).wait0 = p.wait0 := rfl
@[simp] theorem Port.setWaitDesc_wait1 (p : Port) (c : ChanId) (b : Bool) : (p.setWaitDesc c b).wait1 = p.wait1 := rfl
@[simp] theorem Port.setWaitDesc_wait2 (p : Port) (c : ChanId) (b : Bool) : (p.setWaitDesc c b).wait2 = p.wait2 := rfl
@[simp] theorem Port.setWaitDesc_wait4 (p : Port) (c : ChanId) (b : Bool) : (p.setWaitDesc c b).wait4 = p.wait4 := rfl
@[simp] theorem Port.setWaitDesc_dataCount (p : Port) (c : ChanId) (b : Bool) : (p.setWaitDesc c b).dataCount = p.dataCount := rfl
@[simp] theorem Port.setWaitDesc_descCount (p : Port) (c : ChanId) (b : Bool) : (p.setWaitDesc c b).descCount = p.descCount := rfl
@[simp] theorem Port.setWaitDesc_ptr1 (p : Port) (c : ChanId) (b : Bool) : (p.setWaitDesc c b).ptr1 = p.ptr1 := rfl
@[simp] theorem Port.setWaitDesc_ptr2 (p : Port) (c : ChanId) (b : Bool) : (p.setWaitDesc c b).ptr2 = p.ptr2 := rfl
@[simp] theorem Port.setWaitDesc_ptr3 (p : Port) (c : ChanId) (b : Bool) : (p.setWaitDesc c b).ptr3 = p.ptr3 := rfl
@[simp] theorem Port.setWaitData_table (p : Port) (pr : Priority) (c : ChanId) (b : Bool) :
    (p.setWaitData pr c b).table = p.table := by cases pr <;> rfl
@[simp] theorem Port.setWaitData_wait0 (p : Port) (pr : Priority) (c : ChanId) (b : Bool) :
    (p.setWaitData pr c b).wait0 = p.wait0 := by cases pr <;> rfl
@[simp] theorem Port.setWaitData_wait3 (p : Port) (pr : Priority) (c : ChanId) (b : Bool) :
    (p.setWaitData pr c b).wait3 = p.wait3 := by cases pr <;> rfl
@[simp] theorem Port.setWaitData_wait4 (p : Port) (pr : Priority) (c : ChanId) (b : Bool) :
    (p.setWaitData pr c b).wait4 = p.wait4 := by cases pr <;> rfl
@[simp] theorem Port.setWaitData_dataCount (p : Port) (pr : Priority) (c : ChanId) (b : Bool) :
    (p.setWaitData pr c b).dataCount = p.dataCount := by cases pr <;> rfl
@[simp] theorem Port.setWaitData_descCount (p : Port) (pr : Priority) (c : ChanId) (b : Bool) :
    (p.setWaitData pr c b).descCount = p.descCount := by cases pr <;> rfl
@[simp] theorem Port.setWaitData_ptr1 (p : Port) (pr : Priority) (c : ChanId) (b : Bool) :
    (p.setWaitData pr c b).ptr1 = p.ptr1 := by cases pr <;> rfl
@[simp] theorem Port.setWaitData_ptr2 (p : Port) (pr : Priority) (c : ChanId) (b : Bool) :
    (p.setWaitData pr c b).ptr2 = p.ptr2 := by cases pr <;> rfl
@[simp] theorem Port.setWaitData_ptr3 (p : Port) (pr : Priority) (c : ChanId) (b : Bool) :
    (p.setWaitData pr c b).ptr3 = p.ptr3 := by cases pr <;> rfl

theorem Port.setEntry_entry (p : Port) (t k : TagId) (x : Option Transaction) :
    (p.setEntry t x).entry k = if k = t then x else p.entry k := by
  simp only [Port.setEntry, Port.entry, Vector.getElem_set, Fin.ext_iff, eq_comm]
theorem Port.setData_data (p : Port) (c k : ChanId) (n : Nat) :
    (p.setData c n).data k = if k = c then n else p.data k := by
  simp only [Port.setData, Port.data, Vector.getElem_set, Fin.ext_iff, eq_comm]
theorem Port.setDesc_desc (p : Port) (c k : ChanId) (n : Nat) :
    (p.setDesc c n).desc k = if k = c then n else p.desc k := by
  simp only [Port.setDesc, Port.desc, Vector.getElem_set, Fin.ext_iff, eq_comm]
@[simp] theorem Port.setEntry_data (p : Port) (t : TagId) (x : Option Transaction) (c : ChanId) :
    (p.setEntry t x).data c = p.data c := rfl
@[simp] theorem Port.setEntry_desc (p : Port) (t : TagId) (x : Option Transaction) (c : ChanId) :
    (p.setEntry t x).desc c = p.desc c := rfl
@[simp] theorem Port.setData_entry (p : Port) (c : ChanId) (n : Nat) (t : TagId) :
    (p.setData c n).entry t = p.entry t := rfl
@[simp] theorem Port.setData_desc (p : Port) (c k : ChanId) (n : Nat) : (p.setData c n).desc k = p.desc k := rfl
@[simp] theorem Port.setDesc_entry (p : Port) (c : ChanId) (n : Nat) (t : TagId) :
    (p.setDesc c n).entry t = p.entry t := rfl
@[simp] theorem Port.setDesc_data (p : Port) (c k : ChanId) (n : Nat) : (p.setDesc c n).data k = p.data k := rfl
@[simp] theorem Port.setWaitDesc_entry (p : Port) (c : ChanId) (b : Bool) (t : TagId) :
    (p.setWaitDesc c b).entry t = p.entry t := rfl
@[simp] theorem Port.setWaitDesc_data (p : Port) (c k : ChanId) (b : Bool) :
    (p.setWaitDesc c b).data k = p.data k := rfl
@[simp] theorem Port.setWaitDesc_desc (p : Port) (c k : ChanId) (b : Bool) :
    (p.setWaitDesc c b).desc k = p.desc k := rfl
@[simp] theorem Port.setWaitData_entry (p : Port) (pr : Priority) (c : ChanId) (b : Bool) (t : TagId) :
    (p.setWaitData pr c b).entry t = p.entry t := by cases pr <;> rfl
@[simp] theorem Port.setWaitData_data (p : Port) (pr : Priority) (c k : ChanId) (b : Bool) :
    (p.setWaitData pr c b).data k = p.data k := by cases pr <;> rfl
@[simp] theorem Port.setWaitData_desc (p : Port) (pr : Priority) (c k : ChanId) (b : Bool) :
    (p.setWaitData pr c b).desc k = p.desc k := by cases pr <;> rfl

end Sys2Proof.Machine
end

