-- ==== Sys2Proof/Laws/Commands.lean ====
section
/-! SUPPORT. What the take of a command and its end do, once: the lemmas that statements about commands cite. -/

namespace Sys2Proof.Machine

theorem State.running_iff (s : State) : s.running = true ↔ s.device.state = .running := by
  simp [State.running]

/-- The rewriting form of R106 for a list that is not empty. -/
theorem Writer.wantsWrite_append (w : Writer) (x : Completion) (n : Nat) :
    ({ w with list := w.list ++ [x], reservations := n } : Writer).wantsWrite =
      w.queue.any fun q => !w.outstanding && decide ((w.writeIndex - w.hostHead).toNat < q.size) := by
  have e : (w.list ++ [x]).isEmpty = false := by cases w.list <;> rfl
  simp only [Writer.wantsWrite, dist32, e]
  cases w.queue <;> rfl

theorem State.formDone_eq (s : State) (x : Completion) (h : s.device.state = .running) :
    s.formDone x = s.withDone x := by
  simp only [State.formDone, State.presentCpl, State.running, h, State.withDone,
    State.setWriter, State.setPort, Writer.wantsWrite_append]
  rfl

/-- A performed swap (R37). -/
theorem State.swapBanks_eq (s : State) (l : LinkId) (cause : SwapCause) (tag : U32) (h : s.device.state = .running) :
    s.swapBanks l cause tag = s.exchanged l tag cause.code := by
  unfold State.swapBanks
  exact State.formDone_eq (s.setMap l _) _ h

/-- Without a pending swap nothing is performed; with one it is, and a waiting command may take its reservation (R15, R149). -/
theorem State.performPending_eq (s : State) (l : LinkId) (cause : SwapCause) (h : s.device.state = .running) :
    s.performPending l cause = if (s.map l).swapPending
      then (s.exchanged l ((s.map l).swapTag.getD 0) cause.code).grantWaiting else s := by
  simp only [State.performPending, State.swapBanks_eq s l cause _ h]

theorem State.reservationNow_iff (s : State) : s.reservationNow = true ↔ s.Grantable := by
  have free : 0 < s.writer.free ↔ s.writer.list.length + s.writer.reservations < 32 := by
    show 0 < 32 - _ ↔ _; omega
  simp only [State.reservationNow, Bool.and_eq_true, decide_eq_true_eq, Option.isNone_iff_eq_none, free,
    List.all_eq_true, List.mem_finRange, true_implies]
  exact ⟨fun h => ⟨h.1.1.1, h.1.1.2, h.1.2, h.2⟩, fun h => ⟨⟨⟨h.place, h.held⟩, h.device⟩, h.links⟩⟩

/-- The waiting command takes its reservation exactly where it can be granted (R149). -/
theorem State.grantWaiting_granted (s : State) (hd : s.device.state = .running) (hw : s.cmd.state = .waitSpace)
    (hg : s.Grantable) : s.grantWaiting = s.granted := by
  rw [State.grantWaiting, if_pos ⟨(State.running_iff s).mpr hd, hw, (State.reservationNow_iff s).mpr hg⟩]
  rfl

theorem State.grantWaiting_waits (s : State) (h : ¬ (s.cmd.state = .waitSpace ∧ s.Grantable)) : s.grantWaiting = s := by
  rw [State.grantWaiting, if_neg fun k => h ⟨k.2.1, (State.reservationNow_iff s).mp k.2.2⟩]

theorem State.finishTaking_eq (s : State) : s.finishTaking = s.leftCommand := by
  by_cases h : s.cmd.head + 1 = s.cmd.tail
  · refine (if_pos h).trans ?_
    simp only [State.leftCommand, State.setCmd, if_pos h]
  · refine (if_neg h).trans ?_
    simp only [State.leftCommand, State.presentCmdRead, State.setCmd, State.setPort, if_neg h]

theorem State.complete_eq (s : State) (x : Completion) (h : s.device.state = .running) :
    s.complete x = s.doneWith x := by
  rw [State.complete, State.formDone_eq s x h, State.finishTaking_eq, State.doneWith]

theorem State.Taking.atTake {s : State} {r : List Byte} (h : s.Taking r) : s.atTake = some (r, s) := by
  simp [State.atTake, State.running, h.running, h.taking, h.reserved, h.hand, h.idle]

/-- A command of the right kind is carried out by its owner. -/
theorem State.Taking.take {s : State} {r : List Byte} (h : s.Taking r) (k : CmdKind)
    (owner : List Byte → State → State) (hk : byteAt r 0 = k.code) : s.take k owner = owner r s := by
  simp [State.take, h.atTake, cmdKindByte, hk]

theorem linkOf_eq (b : Byte) (l : LinkId) (h : b.toNat = l.val) : linkOf b = some l := by
  have : b.toNat < 8 := by omega
  simp only [linkOf, this, dite_true]
  congr 1
  exact Fin.ext h

theorem linkOf_none (b : Byte) (h : 8 ≤ b.toNat) : linkOf b = none := by
  simp [linkOf]; omega

theorem chanOf_eq (b : Byte) (c : ChanId) (h : b.toNat = c.val) : chanOf b = some c := by
  have : b.toNat < 64 := by omega
  simp only [chanOf, this, dite_true]
  congr 1
  exact Fin.ext h

theorem chanOf_none (b : Byte) (h : 64 ≤ b.toNat) : chanOf b = none := by
  simp [chanOf]; omega

theorem winOf_eq (b : Byte) (w : WinId) (h : b.toNat = w.val) : winOf b = some w := by
  have : b.toNat < 8 := by omega
  simp only [winOf, this, dite_true]
  congr 1
  exact Fin.ext h

theorem winOf_none (b : Byte) (h : 8 ≤ b.toNat) : winOf b = none := by
  simp [winOf]; omega

theorem zeroOutside_iff (r : List Byte) (used : List Nat) :
    zeroOutside r 64 used = true ↔ ReservedZero r used := by
  simp only [zeroOutside, List.all_eq_true, List.mem_range, Bool.or_eq_true, List.contains_iff_mem, beq_iff_eq,
    ReservedZero]
  constructor
  · intro h i hi hn; exact (h i hi).resolve_left hn
  · intro h i hi
    by_cases hm : i ∈ used
    · exact .inl hm
    · exact .inr (h i hi hm)

theorem reservedZero_iff (k : CmdKind) (r : List Byte) :
    reservedZero k r = true ↔ ReservedZero r ([0, 4, 5, 6, 7] ++ k.params) ∧ k.reservedBitsZero r = true := by
  rw [reservedZero, Bool.and_eq_true, zeroOutside_iff]

theorem Window.qualifies_iff (w : Window) (start length : Nat) (a : Access) (h : 1 ≤ length) :
    w.qualifies start length a = true ↔ w.Covers start length a := by
  simp only [Window.qualifies, Window.Covers, Bool.and_eq_true, decide_eq_true_eq, and_assoc]
  constructor
  · rintro ⟨a, b, c, d⟩; exact ⟨a, b, c, by omega⟩
  · rintro ⟨a, b, c, d⟩; exact ⟨a, b, c, by omega⟩

/-- The first of the numbers below `n` that passes a test. -/
theorem find_finRange {n : Nat} (p : Fin n → Bool) (w : Fin n) :
    (List.finRange n).find? p = some w ↔ p w = true ∧ ∀ k, k < w → ¬ p k = true := by
  rw [List.find?_eq_some_iff_getElem]
  simp only [List.getElem_finRange, List.length_finRange, Fin.cast_mk, Bool.not_eq_true']
  constructor
  · rintro ⟨h, i, hi, rfl, hj⟩
    refine ⟨h, fun k hk => ?_⟩
    have := hj k.val hk
    simpa using this
  · rintro ⟨h, hk⟩
    refine ⟨h, w.val, w.isLt, rfl, fun j hj => ?_⟩
    have := hk ⟨j, by omega⟩ hj
    simpa using this

theorem State.findWindow_some (s : State) (start length : Nat) (a : Access) (w : WinId) (h : 1 ≤ length) :
    s.findWindow start length a = some w ↔ s.Picks start length a w := by
  have e : ∀ w, ((s.window w).qualifies start length a = true) ↔ (s.window w).Covers start length a :=
    fun w => Window.qualifies_iff _ _ _ _ h
  simp only [State.findWindow, State.Picks, ← e]
  exact find_finRange (fun w => (s.window w).qualifies start length a) w

theorem State.findWindow_none (s : State) (start length : Nat) (a : Access) (h : 1 ≤ length) :
    s.findWindow start length a = none ↔ s.PicksNone start length a := by
  simp only [State.findWindow, List.find?_eq_none, List.mem_finRange, forall_const, State.PicksNone]
  exact forall_congr' fun w => not_congr (Window.qualifies_iff _ _ _ _ h)

/-- Every kind but SET_WINDOW has no reserved bits inside a listed byte (R169). -/
theorem reservedZero_bytes (k : CmdKind) (r : List Byte) (hk : k ≠ .setWindow) :
    reservedZero k r = true ↔ ReservedZero r ([0, 4, 5, 6, 7] ++ k.params) := by
  rw [reservedZero_iff]; cases k <;> simp_all [CmdKind.reservedBitsZero]

theorem State.named_iff (s : State) (c : ChanId) : s.named c = true ↔ s.Named c := by
  simp [State.named, State.Named, SlotMap.holds]

theorem byte_le_one (b : Byte) (h : b.toNat ≤ 1) : b = 0 ∨ b = 1 := by
  rcases Nat.le_one_iff_eq_zero_or_eq_one.mp h with x | x
  · exact .inl (BitVec.eq_of_toNat_eq x)
  · exact .inr (BitVec.eq_of_toNat_eq x)

theorem powerIn_iff (lo hi n : Nat) : powerIn lo hi n = true ↔ ∃ k, lo ≤ k ∧ k ≤ hi ∧ n = 2 ^ k := by
  simp only [powerIn, List.any_eq_true, List.mem_range, Bool.and_eq_true, decide_eq_true_eq, beq_iff_eq, Nat.lt_succ_iff]
  constructor
  · rintro ⟨k, a, b, c⟩; exact ⟨k, b, a, c⟩
  · rintro ⟨k, a, b, c⟩; exact ⟨k, b, a, c⟩

/-- A map command whose shared checks pass is carried out on its link (R23). -/
theorem State.mapCommand_passes (s : State) (k : CmdKind) (act : LinkId → State → State) (r : List Byte) (l : LinkId)
    (hl : (byteAt r 16).toNat = l.val) (hz : reservedZero k r = true) (hp : (s.map l).swapPending = false) :
    State.mapCommand k true act r s = act l s := by
  simp [State.mapCommand, linkOf_eq _ l hl, State.mapRefusal, hz, hp]

end Sys2Proof.Machine
end

