-- ==== Sys2Proof/Laws/Frames.lean ====
section
/-! SUPPORT. What putting a changed channel back, and handing a notice, can change in the rest of the part. -/

namespace Sys2Proof.Machine

theorem OnlyChannels.refl (P : ChanId → Prop) (s : State) : OnlyChannels P s s where
  device := rfl
  links := rfl
  maps := rfl
  transfer := rfl
  cmd := .inl rfl
  coal := rfl
  cause := rfl
  mask := rfl
  freeBytes := rfl
  pending := rfl
  clocks := rfl
  chans := fun _ _ => rfl
  windows := fun w => ⟨(s.window w).use, le_rfl, rfl⟩
  port := ⟨s.port.wait0, s.port.wait1, s.port.wait2, s.port.wait3, rfl⟩
  writer := ⟨[], s.writer.reservations, by simp, by simp⟩

theorem OnlyChannels.trans {P : ChanId → Prop} {s t u : State} (h : OnlyChannels P s t) (k : OnlyChannels P t u) :
    OnlyChannels P s u where
  device := k.device.trans h.device
  links := k.links.trans h.links
  maps := k.maps.trans h.maps
  transfer := k.transfer.trans h.transfer
  cmd := by
    obtain ⟨l, _, _, e⟩ := h.writer
    obtain ⟨l', _, _, f⟩ := k.writer
    have grown : (t.writer.list ≠ s.writer.list ∨ u.writer.list ≠ t.writer.list) → u.writer.list ≠ s.writer.list := by
      rw [f, e]; simp only [ne_eq, List.append_assoc, List.append_right_eq_self, List.append_eq_nil_iff]
      rintro (h | h) <;> simp_all
    rcases h.cmd with hc | ⟨hd, hw, hl, hc⟩ <;> rcases k.cmd with kc | ⟨kd, kw, kl, kc⟩
    · exact .inl (kc.trans hc)
    · rw [h.device] at kd; rw [hc] at kw kc
      exact .inr ⟨kd, kw, grown (.inr kl), kc⟩
    · exact .inr ⟨hd, hw, grown (.inl hl), kc.trans hc⟩
    · rw [hc] at kw; cases kw
  coal := k.coal.trans h.coal
  cause := k.cause.trans h.cause
  mask := k.mask.trans h.mask
  freeBytes := k.freeBytes.trans h.freeBytes
  pending := k.pending.trans h.pending
  clocks := k.clocks.trans h.clocks
  chans := fun c hc => (k.chans c hc).trans (h.chans c hc)
  windows := fun w => by
    obtain ⟨n, hn, e⟩ := h.windows w
    obtain ⟨m, hm, f⟩ := k.windows w
    rw [e] at hm f
    exact ⟨m, hm.trans hn, f⟩
  port := by
    obtain ⟨a, b, c, d, e⟩ := h.port
    obtain ⟨a', b', c', d', f⟩ := k.port
    exact ⟨a', b', c', d', by rw [f, e]⟩
  writer := by
    obtain ⟨l, n, hl, e⟩ := h.writer
    obtain ⟨l', n', hl', f⟩ := k.writer
    refine ⟨l ++ l', n', fun x hx => ?_, by rw [f, e]; simp⟩
    rcases List.mem_append.mp hx with hx | hx
    · exact hl x hx
    · exact hl' x hx

theorem OnlyChannels.mono {P Q : ChanId → Prop} {s t : State} (h : OnlyChannels P s t) (hPQ : ∀ c, P c → Q c) :
    OnlyChannels Q s t :=
  { h with chans := fun c hc => h.chans c fun hp => hc (hPQ c hp) }

theorem State.letGo_only (P : ChanId → Prop) (s : State) (w : WinId) : OnlyChannels P s (s.letGo w) :=
  { OnlyChannels.refl P s with
    windows := fun k => by
      by_cases h : k = w
      · subst h
        exact ⟨(s.window k).use - 1, Nat.sub_le _ _, by simp [State.letGo]⟩
      · exact ⟨(s.window k).use, le_rfl, by rw [State.letGo, State.setWindow_window_other _ _ _ _ h]⟩ }

theorem State.letGoAll_only (P : ChanId → Prop) (ws : List WinId) (s : State) :
    OnlyChannels P s (s.letGoAll ws) := by
  induction ws generalizing s with
  | nil => exact OnlyChannels.refl P s
  | cons w ws ih => exact (s.letGo_only P w).trans (ih (s.letGo w))

theorem State.setChan_only (P : ChanId → Prop) (s : State) (c : ChanId) (x : Channel) (hc : P c) :
    OnlyChannels P s (s.setChan c x) :=
  { OnlyChannels.refl P s with
    chans := fun _ hk => State.setChan_chan_other _ _ _ _ fun h => hk (h ▸ hc) }

/-- Presenting changes the waiting requests of classes 1 to 3 alone. -/
theorem State.present_only (P : ChanId → Prop) (s : State) (c : ChanId) : OnlyChannels P s (s.present c) :=
  { OnlyChannels.refl P s with
    port := by
      cases h : (s.chan c).cfg.priority
      · exact ⟨_, _, _, _, by simp only [State.present, State.setPort, Port.setWaitDesc, Port.setWaitData, h]; rfl⟩
      · exact ⟨_, _, _, _, by simp only [State.present, State.setPort, Port.setWaitDesc, Port.setWaitData, h]; rfl⟩ }

theorem State.presentCpl_only (P : ChanId → Prop) (s : State) : OnlyChannels P s s.presentCpl := by
  unfold State.presentCpl
  split
  · exact { OnlyChannels.refl P s with port := ⟨_, _, _, _, rfl⟩ }
  · exact OnlyChannels.refl P s

theorem State.formDone_only (P : ChanId → Prop) (s : State) (x : Completion)
    (hx : x.kind = .commandDone ∧ x.command = 0xA ∧ x.status = .ok) : OnlyChannels P s (s.formDone x) := by
  refine OnlyChannels.trans (t := s.setWriter
    { s.writer with list := s.writer.list ++ [x], reservations := s.writer.reservations - 1 }) ?_
    (State.presentCpl_only P _)
  exact { OnlyChannels.refl P s with cmd := .inl rfl, writer := ⟨[x], _, by simpa using hx, rfl⟩ }

theorem State.finishClose_only (P : ChanId → Prop) (s : State) (c : ChanId) (hc : P c) :
    OnlyChannels P s (s.finishClose c) := by
  have h : ∀ s' : State, OnlyChannels P s s' → OnlyChannels P s
      ((s'.setChan c { s.chan c with state := .closed, closeRec := none }).formDone
        (closeDoneOf c (s.chan c) (((s.chan c).closeRec.map CloseRecord.tag).getD 0))) := fun s' hs' =>
    (hs'.trans (s'.setChan_only P c _ hc)).trans (State.formDone_only P _ _ ⟨rfl, rfl, rfl⟩)
  refine h _ ?_
  split
  · exact s.letGo_only P _
  · exact OnlyChannels.refl P s

/-- The end of a close puts its completion behind the pending list (R54). -/
theorem State.finishClose_list (s : State) (c : ChanId) :
    ∃ x, (s.finishClose c).writer.list = s.writer.list ++ [x] := by
  refine ⟨closeDoneOf c (s.chan c) (((s.chan c).closeRec.map CloseRecord.tag).getD 0), ?_⟩
  have h : ∀ s' : State, s'.writer.list = s.writer.list → ((s'.setChan c
      { s.chan c with state := .closed, closeRec := none }).formDone
        (closeDoneOf c (s.chan c) (((s.chan c).closeRec.map CloseRecord.tag).getD 0))).writer.list
      = s.writer.list ++ [closeDoneOf c (s.chan c) (((s.chan c).closeRec.map CloseRecord.tag).getD 0)] := fun s' hs' => by
    unfold State.formDone State.presentCpl; rw [← hs']; split <;> rfl
  refine h _ ?_
  split <;> rfl

/-- A grant to the waiting command changes the Command Processor and the reservations held, or nothing (R149). -/
theorem State.grantWaiting_cases (s : State) :
    s.grantWaiting = s ∨ s.device.state = .running ∧ s.cmd.state = .waitSpace ∧ s.grantWaiting = { s with
      cmd := { s.cmd with state := .taking, reserved := true }
      writer := { s.writer with reservations := s.writer.reservations + 1 } } := by
  unfold State.grantWaiting
  split
  · next h => exact .inr ⟨by simpa [State.running] using h.1, h.2.1, rfl⟩
  · exact .inl rfl

theorem State.endClose_only (P : ChanId → Prop) (s : State) (c : ChanId) (hc : P c) :
    OnlyChannels P s (s.endClose c) := by
  unfold State.endClose
  split
  · have h := s.finishClose_only P c hc
    obtain ⟨x, hx⟩ := s.finishClose_list c
    rcases (s.finishClose c).grantWaiting_cases with e | ⟨hd, hw, e⟩
    · rw [e]; exact h
    · have hcmd : (s.finishClose c).cmd = s.cmd := by
        unfold State.finishClose State.formDone State.presentCpl; simp only []; split <;> split <;> rfl
      rw [e]
      refine { h with cmd := .inr ⟨?_, ?_, ?_, ?_⟩, writer := ?_ }
      · rw [← h.device]; exact hd
      · rw [← hcmd]; exact hw
      · show (s.finishClose c).writer.list ≠ _; rw [hx]; simp
      · show ({ (s.finishClose c).cmd with state := .taking, reserved := true } : CmdProc) = _; rw [hcmd]
      · obtain ⟨l, n, hl, f⟩ := h.writer
        exact ⟨l, (s.finishClose c).writer.reservations + 1, hl, by show ({ (s.finishClose c).writer with
          reservations := (s.finishClose c).writer.reservations + 1 } : Writer) = _; rw [f]⟩
  · exact OnlyChannels.refl P s

/-- Putting a changed channel back handles that channel only. -/
theorem State.update_only (P : ChanId → Prop) (s : State) (c : ChanId) (r : Channel × List WinId) (hc : P c) :
    OnlyChannels P s (s.update c r) := by
  unfold State.update
  split
  · exact s.setChan_only P c _ hc
  · exact (((s.setChan_only P c _ hc).trans (State.letGoAll_only P _ _)).trans (State.present_only P _ c)).trans
      (State.endClose_only P _ c hc)

/-- A notice handles only channels that the bank names. -/
theorem State.notify_only (s : State) (b : Bank) (f : Channel → Channel) :
    OnlyChannels (fun c => b.names c = true) s (s.notify b f) := by
  unfold State.notify
  generalize List.finRange 64 = cs
  induction cs generalizing s with
  | nil => exact OnlyChannels.refl _ s
  | cons c cs ih =>
    simp only [List.foldl_cons]
    split
    · next h =>
      have hn : b.names c = true := by simp only [Bool.and_eq_true] at h; exact h.1
      exact (s.update_only _ c _ hn).trans (ih _)
    · exact ih s

end Sys2Proof.Machine
end

