-- ==== Sys2Proof/Laws/Channels.lean ====
section
/-! SUPPORT. A channel with nothing left to settle goes back into the state as it is; what a settling leaves of any channel. -/

namespace Sys2Proof.Machine

theorem Channel.reap_quiet (ch : Channel) (h : ∀ q ∈ ch.requests, q.over = false) : ch.reap = ch := by
  unfold Channel.reap
  generalize ch.requests = qs at h
  induction qs generalizing ch with
  | nil => rfl
  | cons q qs ih =>
    simp only [List.foldl_cons, h q (List.mem_cons_self ..), Bool.false_eq_true, if_false]
    exact ih ch fun x hx => h x (List.mem_cons_of_mem _ hx)

theorem BufferRecord.keepPasses_id (r : BufferRecord) (d : Direction) (h : ∀ p ∈ r.ended, r.passDone d p = false) :
    r.keepPasses d = r := by
  have : r.ended.filter (fun p => !r.passDone d p) = r.ended := by
    rw [List.filter_eq_self]; intro p hp; simp [h p hp]
  cases r; simp only [BufferRecord.keepPasses] at this ⊢; rw [this]

theorem BufferRecord.leavingPasses_nil (r : BufferRecord) (d : Direction) (h : ∀ p ∈ r.ended, r.passDone d p = false) :
    r.leavingPasses d = [] := by
  simp only [BufferRecord.leavingPasses, List.filter_eq_nil_iff]
  intro p hp; simp [h p hp]

theorem BufferRecord.passesLeave_id (r : BufferRecord) (c : ChanId) (d : Direction) (n : U16)
    (h : ∀ p ∈ r.ended, r.passDone d p = false) : r.passesLeave c d n = r := by
  simp only [BufferRecord.passesLeave, r.keepPasses_id d h, r.leavingPasses_nil d h, List.foldl_nil, ite_self]

/-- A pass completion that joins is added, and nothing else. -/
theorem mem_insertPass (x y : Nat × Completion) (xs : List (Nat × Completion)) :
    y ∈ insertPass x xs ↔ y = x ∨ y ∈ xs := by
  induction xs with
  | nil => simp [insertPass]
  | cons z zs ih =>
    unfold insertPass
    split
    · simp
    · simp only [List.mem_cons, ih]; tauto

/-- Pass completions wait oldest pass first (R94). -/
theorem insertPass_sorted (x : Nat × Completion) (xs : List (Nat × Completion)) (h : xs.Pairwise fun a b => a.1 ≤ b.1) :
    (insertPass x xs).Pairwise fun a b => a.1 ≤ b.1 := by
  induction xs with
  | nil => simp [insertPass]
  | cons z zs ih =>
    obtain ⟨hz, hs⟩ := List.pairwise_cons.mp h
    unfold insertPass
    split
    · next lt =>
      refine List.pairwise_cons.mpr ⟨fun y hy => ?_, h⟩
      rcases List.mem_cons.mp hy with rfl | hy
      · exact lt.le
      · exact lt.le.trans (hz y hy)
    · next ge =>
      refine List.pairwise_cons.mpr ⟨fun y hy => ?_, ih hs⟩
      rcases (mem_insertPass ..).mp hy with rfl | hy
      · exact Nat.le_of_not_lt ge
      · exact hz y hy

/-- A settled channel settles to itself, letting go of no window. -/
theorem Channel.Settled.settle {ch : Channel} (h : ch.Settled) (c : ChanId) : ch.settle c = (ch, []) := by
  have e1 : ∀ r ∈ ch.list, r.keepPasses ch.cfg.dir = r := fun r hr => r.keepPasses_id _ (h.passes r hr)
  have e2 : (ch.list.map fun r => r.keepPasses ch.cfg.dir) = ch.list := by
    conv_rhs => rw [← List.map_id ch.list]
    exact List.map_congr_left e1
  have e3 : ch.list.filter ch.finished = [] := by
    rw [List.filter_eq_nil_iff]; intro r hr; simp [h.records r hr]
  have e4 : (ch.list.map fun r => if ch.finished r = true then { r with state := .retiring } else r) = ch.list := by
    conv_rhs => rw [← List.map_id ch.list]
    exact List.map_congr_left fun r hr => by simp [h.records r hr]
  have e5 : ∀ (n : BufferRecord → U16) (m : U16), (ch.list.map fun r =>
      let k := r.passesLeave c ch.cfg.dir (n r)
      if ch.finished (r.keepPasses ch.cfg.dir) then k.retire c ch.cfg.dir m else k) = ch.list := by
    intro n m
    conv_rhs => rw [← List.map_id ch.list]
    refine List.map_congr_left fun r hr => ?_
    simp only [e1 r hr, r.passesLeave_id _ _ _ (h.passes r hr), h.records r hr]
    rfl
  have e6 : ch.list.dropWhile BufferRecord.gone = ch.list := by
    cases hl : ch.list with
    | nil => rfl
    | cons r rs => rw [List.dropWhile_cons, if_neg]; simp [h.oldest r (by rw [hl]; rfl)]
  simp only [Channel.settle, ch.reap_quiet h.requests]
  rw [e5, e2, e3, e4]
  simp only [Channel.leave, List.length_nil, List.filterMap_nil, List.filter_nil, addCount, BitVec.add_zero, e6, ← h.consumed]

/-- A settled channel that is not closing goes back as it is. -/
theorem State.update_settled (s : State) (c : ChanId) (ch : Channel) (h : ch.Settled) (hc : ch.state ≠ .closing) :
    s.update c (ch, []) = s.put c ch := by
  unfold State.update State.put
  simp only [h.settle c]
  split
  · rfl
  · have e : (({ s with chans := s.chans.set c.val ch } : State).present c).chan c = ch := by
      simp [State.present, State.chan, State.setPort]
    have hd : ((({ s with chans := s.chans.set c.val ch } : State).present c).chan c).closeDone = false := by
      rw [e]; simp only [Channel.closeDone]; cases hs : ch.state <;> simp_all
    show (({ s with chans := s.chans.set c.val ch } : State).present c).endClose c = _
    rw [State.endClose, if_neg (by simp [hd])]

/-! ## What a settling leaves -/

/-- Two channels agree on all but their counters, list, requests and consumed index. -/
structure Channel.SameBut (a b : Channel) : Prop where
  state : a.state = b.state
  config : a.config = b.config
  ringWindow : a.ringWindow = b.ringWindow
  haltCause : a.haltCause = b.haltCause
  closeRec : a.closeRec = b.closeRec
  discarded : a.discarded = b.discarded
  groups : a.groups = b.groups
  idleFrame : a.idleFrame = b.idleFrame
  gapMark : a.gapMark = b.gapMark
  producer : a.producer = b.producer
  fetch : a.fetch = b.fetch
  descRead : a.descRead = b.descRead

theorem Channel.SameBut.refl (a : Channel) : a.SameBut a := ⟨rfl, rfl, rfl, rfl, rfl, rfl, rfl, rfl, rfl, rfl, rfl, rfl⟩

theorem Channel.SameBut.trans {a b c : Channel} (h : a.SameBut b) (k : b.SameBut c) : a.SameBut c :=
  ⟨h.state.trans k.state, h.config.trans k.config, h.ringWindow.trans k.ringWindow, h.haltCause.trans k.haltCause,
    h.closeRec.trans k.closeRec, h.discarded.trans k.discarded, h.groups.trans k.groups, h.idleFrame.trans k.idleFrame,
    h.gapMark.trans k.gapMark, h.producer.trans k.producer, h.fetch.trans k.fetch, h.descRead.trans k.descRead⟩

theorem Channel.mapRecords_same (ch : Channel) (f : BufferRecord → BufferRecord) : (ch.mapRecords f).SameBut ch :=
  ⟨rfl, rfl, rfl, rfl, rfl, rfl, rfl, rfl, rfl, rfl, rfl, rfl⟩

/-- The end of a request removes it, and keeps the states of the records. -/
theorem Channel.endRequest_spec (ch : Channel) (q : DataRequest) :
    (ch.endRequest q).SameBut ch ∧ (ch.endRequest q).requests = ch.requests.filter (fun x => x.id != q.id)
      ∧ (ch.endRequest q).list.map BufferRecord.state = ch.list.map BufferRecord.state := by
  unfold Channel.endRequest
  simp only []
  split
  · exact ⟨⟨rfl, rfl, rfl, rfl, rfl, rfl, rfl, rfl, rfl, rfl, rfl, rfl⟩, rfl, rfl⟩
  · split
    · exact ⟨⟨rfl, rfl, rfl, rfl, rfl, rfl, rfl, rfl, rfl, rfl, rfl, rfl⟩, rfl, rfl⟩
    · refine ⟨⟨rfl, rfl, rfl, rfl, rfl, rfl, rfl, rfl, rfl, rfl, rfl, rfl⟩, rfl, ?_⟩
      simp only [Channel.mapPass, Channel.mapRecord, Channel.mapRecords, List.map_map]
      refine List.map_congr_left fun r _ => ?_
      simp only [Function.comp, BufferRecord.mapPass]
      split
      · split <;> rfl
      · rfl

theorem Channel.reap_spec (ch : Channel) :
    ch.reap.SameBut ch ∧ (∀ q ∈ ch.reap.requests, q ∈ ch.requests)
      ∧ ch.reap.list.map BufferRecord.state = ch.list.map BufferRecord.state := by
  have h : ∀ (qs : List DataRequest) (a : Channel),
      (qs.foldl (fun c q => if q.over then c.endRequest q else c) a).SameBut a
      ∧ (∀ q ∈ (qs.foldl (fun c q => if q.over then c.endRequest q else c) a).requests, q ∈ a.requests)
      ∧ (qs.foldl (fun c q => if q.over then c.endRequest q else c) a).list.map BufferRecord.state
        = a.list.map BufferRecord.state := by
    intro qs
    induction qs with
    | nil => intro a; exact ⟨Channel.SameBut.refl a, fun q hq => hq, rfl⟩
    | cons q qs ih =>
      intro a
      simp only [List.foldl_cons]
      by_cases ho : q.over = true
      · simp only [ho, if_true]
        obtain ⟨h1, h2, h3⟩ := ih (a.endRequest q)
        obtain ⟨k1, k2, k3⟩ := a.endRequest_spec q
        refine ⟨h1.trans k1, fun x hx => ?_, h3.trans k3⟩
        have := h2 x hx
        rw [k2] at this
        exact (List.mem_filter.mp this).1
      · simp only [ho]
        exact ih a
  exact h ch.requests ch

/-- A request that is over is gone after the reaping. -/
theorem Channel.reap_quiet_after (ch : Channel) : ∀ q ∈ ch.reap.requests, q.over = false := by
  have h : ∀ (qs : List DataRequest) (a : Channel), (∀ q ∈ a.requests, q.over = true → q ∈ qs) →
      ∀ q ∈ (qs.foldl (fun c q => if q.over then c.endRequest q else c) a).requests, q.over = false := by
    intro qs
    induction qs with
    | nil =>
      intro a ha q hq
      by_contra hn
      exact absurd (ha q hq (by simpa using hn)) (by simp)
    | cons q qs ih =>
      intro a ha
      simp only [List.foldl_cons]
      refine ih _ fun x hx ho => ?_
      by_cases hq : q.over = true
      · simp only [hq, if_true, (a.endRequest_spec q).2.1] at hx
        have hm := List.mem_filter.mp hx
        rcases List.mem_cons.mp (ha x hm.1 ho) with e | e
        · subst e; simp at hm
        · exact e
      · simp only [hq] at hx
        rcases List.mem_cons.mp (ha x hx ho) with e | e
        · subst e; exact absurd ho hq
        · exact e
  exact h ch.requests ch fun q hq _ => hq

/-- A settling keeps all but the counters, the list, the requests and the consumed index; what is left of the requests was
there and is not over; every record left had its state before, or is RETIRING. -/
theorem Channel.settle_spec (ch : Channel) (c : ChanId) :
    (ch.settle c).1.SameBut ch ∧ (∀ q ∈ (ch.settle c).1.requests, q ∈ ch.requests ∧ q.over = false)
      ∧ ∀ r ∈ (ch.settle c).1.list, r.state = .retiring ∨ r.state ∈ ch.list.map BufferRecord.state := by
  obtain ⟨h1, h2, h3⟩ := ch.reap_spec
  refine ⟨Channel.SameBut.trans ?_ h1, fun q hq => ⟨h2 q hq, ch.reap_quiet_after q hq⟩, fun r hr => ?_⟩
  · exact ⟨rfl, rfl, rfl, rfl, rfl, rfl, rfl, rfl, rfl, rfl, rfl, rfl⟩
  · have hm := (List.dropWhile_sublist _).subset hr
    obtain ⟨x, hx, e⟩ := List.mem_map.mp hm
    rw [← h3]
    subst e
    simp only []
    split
    · left; rfl
    · right; exact List.mem_map.mpr ⟨x, hx, rfl⟩

end Sys2Proof.Machine
end

