-- ==== Sys2Proof/Laws/Clocks.lean ====
section
/-! SUPPORT. What the parts of a bit clock do, once: the samples of a link, its place in the frame, and the slot events that are
due. -/

namespace Sys2Proof.Machine

/-! ## The samples -/

@[simp] theorem Link.sampled_config (l : Link) (b : BitClock) : (l.sampled b).config = l.config := rfl
@[simp] theorem Link.sampled_state (l : Link) (b : BitClock) : (l.sampled b).state = l.state := rfl
@[simp] theorem Link.sampled_missed (l : Link) (b : BitClock) : (l.sampled b).missed = l.missed := rfl
@[simp] theorem Link.sampled_frame (l : Link) (b : BitClock) : (l.sampled b).frame = l.frame := rfl
@[simp] theorem Link.sampled_bitPos (l : Link) (b : BitClock) : (l.sampled b).bitPos = l.bitPos := rfl
@[simp] theorem Link.sampled_launched (l : Link) (b : BitClock) : (l.sampled b).launched = l.launched := rfl
@[simp] theorem Link.sampled_completed (l : Link) (b : BitClock) : (l.sampled b).completed = l.completed := rfl
@[simp] theorem Link.sampled_event (l : Link) (b : BitClock) : (l.sampled b).event = l.event := rfl
@[simp] theorem Link.sampled_txd (l : Link) (b : BitClock) : (l.sampled b).txd = l.txd := rfl
@[simp] theorem Link.sampled_place (l : Link) (b : BitClock) : (l.sampled b).place = l.place := rfl

/-! ## The place in the frame -/

theorem Link.place_eq_some (l : Link) (cfg : LinkConfig) (p : Nat) :
    l.place = some (cfg, p) ↔ l.state = .locked ∧ l.config = some cfg ∧ l.bitPos = some p := by
  unfold Link.place
  split
  · next h g k => simp [h, g, k]
  · next h =>
    simp only [reduceCtorEq, false_iff]
    rintro ⟨a, b, c⟩
    exact h _ _ a b c

theorem Link.place_eq_none (l : Link) (h : l.state ≠ .locked) : l.place = none := by
  unfold Link.place
  split
  · next g _ _ => exact absurd g h
  · rfl

/-! ## The slot events that are due -/

theorem State.raiseDue_of_not_locked (s : State) (l : LinkId) (h : (s.link l).state ≠ .locked) : s.raiseDue l = s := by
  simp [State.raiseDue, Link.place_eq_none _ h]

theorem State.endSlotHere_of_not_locked (s : State) (l : LinkId) (h : (s.link l).state ≠ .locked) :
    s.endSlotHere l = s := by
  simp [State.endSlotHere, Link.place_eq_none _ h]

/-- Nothing is due in a slot that has been launched, the slots before it having completed (R13). -/
theorem State.raiseDue_of_raised (s : State) (l : LinkId) (cfg : LinkConfig) (p : Nat)
    (h : (s.link l).place = some (cfg, p)) (launched : p / cfg.width < (s.link l).launched)
    (completed : p / cfg.width ≤ (s.link l).completed) : s.raiseDue l = s := by
  simp [State.raiseDue, h, Nat.not_lt.mpr completed, Nat.not_le.mpr launched]

/-- A departure handles its channel alone. -/
theorem State.departGroup_only (s : State) (c : ChanId) : OnlyChannels (· = c) s (s.departGroup c) := by
  unfold State.departGroup
  split
  · exact s.update_only _ c _ rfl
  · exact OnlyChannels.refl _ s

/-- The end of a slot that is not the slot of a last lane departs nothing (R68). -/
theorem State.endSlot_of_not_last (s : State) (l : LinkId) (slot : SlotId) (cfg : LinkConfig)
    (h : ∀ x, (s.map l).active[slot.val].tx = some x → x.lane.val + 1 ≠ (s.chan x.chan).cfg.lanes) :
    s.endSlot l slot cfg
      = if (s.link l).completed ≤ slot.val then s.receiveSlot l slot cfg (s.link l).rxBits else s := by
  unfold State.endSlot
  cases g : (s.map l).active[slot.val].tx with
  | none => rfl
  | some x => simp [h x g]

/-- The end of the slot of a last lane makes the departure that is due there (R68). -/
theorem State.endSlot_of_last (s : State) (l : LinkId) (slot : SlotId) (cfg : LinkConfig) (x : Half)
    (h : (s.map l).active[slot.val].tx = some x) (last : x.lane.val + 1 = (s.chan x.chan).cfg.lanes) :
    s.endSlot l slot cfg
      = (if (s.link l).completed ≤ slot.val then s.receiveSlot l slot cfg (s.link l).rxBits else s).departGroup x.chan := by
  simp [State.endSlot, h, last]

/-! ## The bit clock -/

/-- While RESETn is low no framer samples (R168). -/
theorem State.bitClock_low (s : State) (b : BitClock) (h : s.device.resetLow = true) : s.bitClock b = s := by
  simp [State.bitClock, h]

/-- A bit clock of an OFF link only samples (R6). -/
theorem State.bitClock_off (s : State) (b : BitClock) (h : s.device.resetLow = false) (off : (s.link b.link).state = .off) :
    s.bitClock b = s.setLink b.link ((s.link b.link).sampled b) := by
  have n : (s.link b.link).state ≠ .locked := by rw [off]; decide
  simp only [State.bitClock, h, s.raiseDue_of_not_locked _ n, s.endSlotHere_of_not_locked _ n]
  simp [off, State.raiseDue_of_not_locked]

/-- The rows of a list come one after another. -/
theorem runRows_append (xs ys : List Instr) (s : State) : runRows (xs ++ ys) s = (runRows xs s).bind (runRows ys) := by
  induction xs generalizing s with
  | nil => rfl
  | cons x xs ih =>
    simp only [List.cons_append, runRows]
    cases exec x s with
    | next t => exact ih t
    | fault _ => rfl
    | refused _ => rfl

end Sys2Proof.Machine
end

