-- ==== Sys2Proof/Laws/Port.lean ====
section
/-! SUPPORT. What the Memory Port does at a grant and at a response, once. -/

namespace Sys2Proof.Machine

theorem Port.leaveEntry_eq (p : Port) (tag : TagId) (t : Transaction) : p.leaveEntry tag t = p.freed tag t := by
  unfold Port.leaveEntry Port.freed
  cases h : t.channel with
  | none => rfl
  | some c => by_cases h3 : t.cls = 3 <;> simp only [h3, if_true, if_false] <;> rfl

theorem Port.drained_iff (p : Port) : p.drained = true ↔ p.Empty := by
  simp [Port.drained, Port.Empty]

theorem Port.freeEntry_iff (p : Port) (tag : TagId) : p.freeEntry = some tag ↔ p.FirstFree tag := by
  rw [Port.freeEntry, find_finRange]
  simp [Port.FirstFree, Option.isNone_iff_eq_none]

theorem Port.enter_data (p : Port) (tag : TagId) (pr : Priority) (c : ChanId) (t : Transaction) (hc : t.channel = some c)
    (h3 : t.cls ≠ 3) : ((p.setWaitData pr c false).setDataPtr pr c).enter tag t = p.dataGranted tag pr c t := by
  cases pr <;> simp only [Port.enter, Port.dataGranted, Port.setWaitData, Port.setDataPtr, Port.setEntry, Port.setData,
    Port.data, hc, h3, if_false]

/-- A response with the tag of a free entry has no effect (R129). -/
theorem State.respond_free (s : State) (tag : TagId) (answer : ReadResult) (h : s.port.entry tag = none) :
    s.respond tag answer = s := by
  simp only [State.respond, h]

/-- A response frees the entry of its tag and reaches the requester it names (R129). -/
theorem State.respond_taken (s : State) (tag : TagId) (answer : ReadResult) (t : Transaction)
    (e : s.port.entry tag = some t) (hr : s.device.state ≠ .resetting) :
    s.respond tag answer = (s.answered tag t).deliver t answer := by
  simp only [State.respond, e, Port.leaveEntry_eq, if_neg hr]; rfl

/-- While RESETTING a response frees the entry of its tag and goes no further (R134). -/
theorem State.respond_resetting (s : State) (tag : TagId) (answer : ReadResult) (t : Transaction)
    (e : s.port.entry tag = some t) (hr : s.device.state = .resetting) :
    s.respond tag answer = (s.answered tag t).endReset := by
  simp only [State.respond, e, Port.leaveEntry_eq, if_pos hr]; rfl

/-- Bytes that are all there are taken as they are (R122). -/
theorem wholeAnswer_okay (bs : List Byte) (used : Nat) : wholeAnswer (.okay bs) bs.length used = .okay bs := by
  simp [wholeAnswer]

theorem missingBytes_okay (bs : List Byte) : missingBytes (.okay bs) bs.length = 0 := by
  simp [missingBytes]

/-- A read that carries the whole of its bytes reaches its requester with them (R122). -/
theorem State.readWhole_okay (s : State) (t : Transaction) (bs : List Byte) (owner : State → ReadResult → State)
    (h : bs.length = t.length) : s.readWhole t (.okay bs) owner = owner s (.okay bs) := by
  simp only [State.readWhole, ← h, wholeAnswer_okay, missingBytes_okay]; rfl

theorem State.readWhole_error (s : State) (t : Transaction) (owner : State → ReadResult → State) :
    s.readWhole t .error owner = owner s .error := rfl

theorem State.endReset_done (s : State) (hr : s.device.state = .resetting) (he : s.port.Empty) :
    s.endReset = s.afterSoftReset := by
  rw [State.endReset, if_pos ⟨hr, (Port.drained_iff _).mpr he⟩]; rfl

theorem State.endReset_waits (s : State) (h : ¬ (s.device.state = .resetting ∧ s.port.Empty)) : s.endReset = s := by
  rw [State.endReset, if_neg]; rwa [Port.drained_iff]

end Sys2Proof.Machine
end

