-- ==== Sys2Proof/Laws/Records.lean ====
section
/-! SUPPORT. What the discards of a FIFO, the end of a pass while closing and the close itself leave of a channel. -/

namespace Sys2Proof.Machine

/-- From `b` to `a` records may have changed, but for beginning; counters of the FIFO, groups and marks may differ. -/
structure Channel.Kept (a b : Channel) : Prop where
  state : a.state = b.state
  config : a.config = b.config
  ringWindow : a.ringWindow = b.ringWindow
  haltCause : a.haltCause = b.haltCause
  closeRec : a.closeRec = b.closeRec
  producer : a.producer = b.producer
  descRead : a.descRead = b.descRead
  requests : a.requests = b.requests
  moved : a.moved = b.moved
  list : ∀ x ∈ a.list, x.state = .draining ∨ x.state ∈ b.list.map BufferRecord.state

theorem Channel.Kept.refl (a : Channel) : a.Kept a :=
  ⟨rfl, rfl, rfl, rfl, rfl, rfl, rfl, rfl, rfl, fun x hx => .inr (List.mem_map.mpr ⟨x, hx, rfl⟩)⟩

theorem Channel.Kept.trans {a b c : Channel} (h : a.Kept b) (k : b.Kept c) : a.Kept c :=
  ⟨h.1.trans k.1, h.2.trans k.2, h.3.trans k.3, h.4.trans k.4, h.5.trans k.5, h.6.trans k.6, h.7.trans k.7,
    h.8.trans k.8, h.9.trans k.9, fun x hx => by
    rcases h.list x hx with e | e
    · exact .inl e
    · obtain ⟨y, hy, e'⟩ := List.mem_map.mp e
      rw [← e']; exact k.list y hy⟩

theorem Channel.mapRecords_kept (ch : Channel) (f : BufferRecord → BufferRecord)
    (h : ∀ r, (f r).state = .draining ∨ (f r).state = r.state) : (ch.mapRecords f).Kept ch :=
  ⟨rfl, rfl, rfl, rfl, rfl, rfl, rfl, rfl, rfl, fun x hx => by
    obtain ⟨y, hy, rfl⟩ := List.mem_map.mp hx
    rcases h y with e | e
    · exact .inl e
    · right; rw [e]; exact List.mem_map.mpr ⟨y, hy, rfl⟩⟩

theorem BufferRecord.mapPass_state (r : BufferRecord) (n : Nat) (f : Pass → Pass) : (r.mapPass n f).state = r.state := by
  unfold BufferRecord.mapPass; split <;> rfl

theorem Channel.mapSource_kept (ch : Channel) (src : Option Source) (f : Pass → Pass) : (ch.mapSource src f).Kept ch := by
  unfold Channel.mapSource; split
  · refine Channel.mapRecords_kept _ _ fun r => .inr ?_
    split
    · exact BufferRecord.mapPass_state _ _ _
    · rfl
  · exact .refl _

theorem Channel.mapSource_lost (ch : Channel) (src : Option Source) (f : Pass → Pass) :
    (ch.mapSource src f).lost = ch.lost := by
  unfold Channel.mapSource; split <;> rfl

theorem Channel.discard_kept (ch : Channel) (b : Bool) : (ch.discard b).Kept ch := by
  have h : ∀ (gs : List Group) (a : Channel), (gs.foldl (fun c g => c.mapSource g.source Pass.finishOne) a).Kept a := by
    intro gs; induction gs with
    | nil => exact .refl
    | cons g gs ih => intro a; exact (ih _).trans (a.mapSource_kept _ _)
  unfold Channel.discard; simp only []; split
  · exact ⟨rfl, rfl, rfl, rfl, rfl, rfl, rfl, rfl, rfl, fun x hx => .inr (List.mem_map.mpr ⟨x, hx, rfl⟩)⟩
  · have k := h ch.groups ch
    exact ⟨k.1, k.2, k.3, k.4, k.5, k.6, k.7, k.8, k.9, k.10⟩

/-- Every group is removed and counted, in the counter of its direction (R71). -/
theorem Channel.discard_counts (ch : Channel) :
    (ch.discard false).groups = [] ∧ (ch.discard false).idleFrame = none ∧ (ch.discard false).gapMark = false
      ∧ (ch.cfg.dir = .rx → (ch.discard false).lost = ch.lost + BitVec.ofNat 32 ch.groups.length
          ∧ (ch.discard false).discarded = ch.discarded)
      ∧ (ch.cfg.dir = .tx → (ch.discard false).lost = ch.lost
          ∧ (ch.discard false).discarded = ch.discarded + BitVec.ofNat 32 ch.groups.length) := by
  have h : ∀ (gs : List Group) (a : Channel),
      (gs.foldl (fun c g => c.mapSource g.source Pass.finishOne) a).lost = a.lost := by
    intro gs; induction gs with
    | nil => intro a; rfl
    | cons g gs ih =>
      intro a
      exact (ih _).trans (a.mapSource_lost _ _)
  unfold Channel.discard
  cases hd : ch.cfg.dir with
  | rx => exact ⟨rfl, rfl, rfl, fun _ => ⟨rfl, rfl⟩, by simp⟩
  | tx => exact ⟨rfl, rfl, rfl, by simp, fun _ => ⟨h _ _, rfl⟩⟩

theorem Channel.passEnd_kept (ch : Channel) (hs : ch.state = .closing) : ch.passEnd.Kept ch := by
  unfold Channel.passEnd; split
  · exact .refl _
  · split
    · exact .refl _
    · refine (Channel.discard_kept _ _).trans (Channel.mapRecords_kept _ _ fun r => ?_)
      split
      · exact .inl rfl
      · exact .inr rfl

theorem Channel.endBegun_kept (ch : Channel) (st : Status) : (ch.endBegun st).Kept ch :=
  Channel.mapRecords_kept _ _ fun r => by split <;> exact .inr rfl

/-- The mode's treatment of a CLOSING channel begins no record (R50 to R52). -/
theorem Channel.closeBy_kept (ch : Channel) (mode : CloseMode) (hs : ch.state = .closing) : (ch.closeBy mode).Kept ch := by
  unfold Channel.closeBy
  split
  · exact (Channel.endBegun_kept _ _).trans (Channel.discard_kept _ _)
  · exact (Channel.endBegun_kept _ _).trans (Channel.discard_kept _ _)
  · split
    · exact Channel.discard_kept _ _
    · refine Channel.Kept.trans (Channel.passEnd_kept _ (by exact hs)) (Channel.mapRecords_kept _ _ fun r => ?_)
      split <;> exact .inr rfl

theorem State.letGoAll_chan (ws : List WinId) (s : State) (c : ChanId) : (s.letGoAll ws).chan c = s.chan c := by
  induction ws generalizing s with
  | nil => rfl
  | cons w ws ih => exact (ih (s.letGo w)).trans rfl

theorem Channel.poisonHalt_spec (ch : Channel) (why : HaltCause) :
    (ch.poisonHalt why).state = .halted ∧ (ch.poisonHalt why).haltCause = some why ∧ (ch.poisonHalt why).groups = [] := by
  refine ⟨rfl, rfl, ?_⟩
  unfold Channel.poisonHalt Channel.halt Channel.mapRecords Channel.absorbAll Channel.discard
  simp only []; split <;> rfl

end Sys2Proof.Machine
end

