-- ==== Sys2Proof/WellFormed.lean ====
section
/-! DEFINITION. Which commands the outside can send: a read response answered OKAY carries the whole of its bytes, and a
transaction is 1 to 64 bytes long (R122); a value written at a narrow width fits it (R159). -/

namespace Sys2Proof

/-- The bytes of a response to a read whose length the kind fixes (R123). -/
def ReadResult.fits (r : ReadResult) (length : Nat) : Bool :=
  match r with
  | .okay bytes => bytes.length == length
  | .error => true

/-- The bytes of a response to a read of 1 to `most` bytes in units of `unit` (R77, R25). -/
def ReadResult.within (r : ReadResult) (unit most : Nat) : Bool :=
  match r with
  | .okay bytes => decide (1 ≤ bytes.length) && decide (bytes.length ≤ most) && bytes.length % unit == 0
  | .error => true

/-- The bits that an access of a width carries. -/
def AccessWidth.bits : AccessWidth → Nat
  | .w8 => 8
  | .w16 => 16
  | .w32 => 32

def Instr.wellFormed : Instr → Bool
  | .registerWrite _ width value => decide (value.toNat < 2 ^ width.bits)
  | .txReadResponse _ r => r.within 1 48
  | .descReadResponse _ r => r.fits 16
  | .cmdReadResponse _ r => r.fits 64
  | .listReadResponse _ r => r.within 4 64
  | .configReadResponse _ r => r.fits 32
  | .configureLink | .startLink | .stopLink | .writeSlotMap | .copySlotMap | .readSlotMap | .swapSlotMap
  | .openChannel | .closeChannel | .resumeChannel | .queryChannel | .setWindow | .setCoalescing | .nop
  | .unknownCommand | .enable _ | .reset _ | .cmdqTailWrite _ | .chanPostWrite _ | .cplqHeadWrite _
  | .irqCauseWrite _ | .irqMaskWrite _ | .syncPulseLock _ | .syncOnTime _ | .freewheel _ | .linkLoss _
  | .slip _ | .frameBoundaryOut _ | .transmitSlotLaunch _ _ | .receiveSlotComplete _ _ _ | .groupDeparture _
  | .grant | .cplWriteResponse _ _ | .rxWriteResponse _ _ | .listWriteResponse _ _ | .admission
  | .coalescingCountReached | .coalescingTimerExpiry | .closeEnd _ | .softResetEnd | .powerOnReset
  | .powerOnResetRelease | .timebaseTick | .responseMatchingNoTransaction _ => true

end Sys2Proof
end

