-- ==== Sys2Proof/Tests/Slice0.lean ====
section
/-! SUPPORT. Small tests of one step each, with expected results worked out from the rules of spec/, and for every statement
with hypotheses the states and operands that meet them together. -/

namespace Sys2Proof.Tests

open Sys2Proof.Machine

set_option Elab.async false

/-! ## Helpers -/

/-- A record of `n` bytes, zero but for the listed ones. -/
def bytes (n : Nat) (fields : List (Nat × Byte)) : List Byte := (List.range n).map fun i => (fields.lookup i).getD 0

/-- A command record (R169) with tag 0x44332211. -/
def command (kind : Byte) (fields : List (Nat × Byte)) : List Byte :=
  bytes 64 ((0, kind) :: (4, 0x11) :: (5, 0x22) :: (6, 0x33) :: (7, 0x44) :: fields)

/-- The part RUNNING, with a command queue of 16 records and a completion queue of 32. -/
def running (s : State) : State :=
  { s with
    device := { s.device with state := .running }
    cmd := { queue := some { base := 0x1000, size := 16 }, head := 4, tail := 5, state := .idle, inHand := none,
             reserved := false }
    writer := { s.writer with queue := some { base := 0x2000, size := 32 } } }

/-- The record is at its take. -/
def taking (r : List Byte) (s : State) : State :=
  { running s with
    cmd := { (running s).cmd with state := .taking, inHand := some r, reserved := true }
    writer := { (running s).writer with reservations := 1 }, transfer := none }

theorem taking_taking (r : List Byte) (s : State) : (taking r s).Taking r := ⟨rfl, rfl, rfl, rfl, rfl⟩

/-- What a step answers. -/
def after (o : Host.Outcome State Fault Refusal) : State :=
  match o with
  | .next t => t
  | .fault _ => State.reset
  | .refused _ => State.reset

/-- The completion formed last. -/
def lastDone (s : State) : Option Completion := s.writer.list.getLast?

/-- Kind, status, source and value 0 of the completion formed last. -/
def lastReport (s : State) : Option (BitVec 4 × Status × Byte × U32) :=
  (lastDone s).map fun x => (x.command, x.status, x.source, x.v0)

/-- A configured link of 4 slots of 8 bits. -/
def link (role : SyncRole) (state : LinkState) : Link :=
  { config := some { slots := 4, width := 8, role := role, idleMode := .drive, idleValue := 0x12AB }, state := state,
    missed := 0, frame := 7, bitPos := if state = .locked then some 0 else none, launched := 0, completed := 0,
    event := none, txd := none, fsyLow := true, rxBits := 0x1256 }

/-- The link at the last bit of its frame of 32 bits, every slot event raised. -/
def atEnd (l : Link) : Link := { l with bitPos := some 31, launched := 4, completed := 4 }

/-- The link at the point between slot `n - 1` and slot `n`, with the launch of slot `n` raised or not. -/
def atSlot (n : Nat) (launched : Bool) (l : Link) : Link :=
  { l with bitPos := some (if launched then n * 8 else n * 8 - 1), launched := if launched then n + 1 else n, completed := n }

/-- A bank that assigns lanes 0 and 1 of channel 0 to slots 0 and 1, in both directions. -/
def bank : Bank :=
  (Bank.unassigned.set 0 { rx := some { chan := 0, lane := 0 }, tx := some { chan := 0, lane := 0 } }).set 1
    { rx := some { chan := 0, lane := 1 }, tx := some { chan := 0, lane := 1 } }

def map (pending : Bool) : SlotMap :=
  { active := bank, standby := Bank.unassigned, swapPending := pending, swapTag := if pending then some 9 else none }

def config (dir : Direction) (layout : Layout) : ChanConfig :=
  { dir := dir, width := 8, lanes := 2, layout := layout, priority := .normal, threshold := 2, ringBase := 0x4000,
    ringSize := 8, idleValue := if dir = .tx then some 0x34CD else none }

/-- A channel with an empty list, its ring in window 0 and one descriptor posted. -/
def empty (dir : Direction) (layout : Layout) (state : ChanState) : Channel :=
  { Channel.reset with
    state := state, config := some (config dir layout), ringWindow := some 0, producer := 1, lost := 5 }

def pass (issued answered : Nat) : Pass :=
  { count := 1, stamp := some 3, issued := issued, answered := answered, departed := 0, finished := 0, overrun := false,
    underrun := false, gap := false, tally := 0 }

/-- A record of 8 frames at ring index 0, its buffer in window 1. -/
def record (state : RecState) (p : Pass) : BufferRecord :=
  { ring := 0, tag := 0x77, tagAbsent := false, notify := true, repeated := false, address := 0x8000, frames := 8,
    window := some 1, state := state, pass := p, ended := [], passCpls := [], folded := false, finalStatus := .done,
    completion := none }

/-- A channel with the record alone in its list. -/
def holding (dir : Direction) (layout : Layout) (state : ChanState) (r : BufferRecord) : Channel :=
  { empty dir layout state with fetch := 1, list := [r] }

def whole (a b : U16) : Group :=
  { cond := .whole, samples := [some a, some b], stamp := some 6, source := none, nextLane := 2 }

/-- A group read from frame `f` of the record. -/
def txGroup (cond : GroupCond) (f lanesSent : Nat) : Group :=
  { cond := cond, samples := [some 0x0A1, some 0x0B2], stamp := some 6, source := some { ring := 0, pass := 1, frame := f },
    nextLane := lanesSent }

/-- A request of 2 frames with one lane issued. -/
def request (lanes issued answered : Nat) : DataRequest :=
  { id := 0, ring := 0, pass := 1, first := 0, count := 2, lanes := lanes, issued := issued, answered := answered,
    error := false, cut := false, absorbed := false, flush := false, samples := [[1, 2], [3, 4]] }

def transaction (kind : TransKind) (cls : Nat) (c : Option ChanId) (length : Nat) (ref : TransRef) : Transaction :=
  { kind := kind, cls := cls, channel := c, address := 0x8000, length := length, bytes := [], ref := ref }

/-- The transaction stands in entry 0, counted for channel 0. -/
def issued (t : Transaction) (s : State) : State :=
  { s with port := { s.port with table := s.port.table.set 0 (some t), dataCount := s.port.dataCount.set 0 1 } }

def withChan (ch : Channel) : State := running (State.reset.setChan 0 ch)

/-- An enabled window that grants both permissions. -/
def openWindow (base limit : U64) (use : Nat) : Window :=
  { enabled := true, base := base, limit := limit, read := true, write := true, use := use }

/-- Link 0 and its map, channel 0, and windows 0 and 1. -/
def stage (l : Link) (m : SlotMap) (ch : Channel) : State :=
  running ((((State.reset.setLink 0 l).setMap 0 m).setChan 0 ch).setWindow 0 (openWindow 0x4000 0x4FFF 1)
    |>.setWindow 1 (openWindow 0x8000 0x8FFF 1))

/-! ## Well-formedness and decoding -/

theorem test_config_read_carries_32_bytes :
    (Instr.configReadResponse 0 (.okay (bytes 31 []))).wellFormed = false
      ∧ (Instr.configReadResponse 0 (.okay (bytes 32 []))).wellFormed = true := by decide

theorem test_cmd_read_carries_64_bytes :
    (Instr.cmdReadResponse 0 (.okay (bytes 63 []))).wellFormed = false
      ∧ (Instr.cmdReadResponse 0 (.okay (bytes 64 []))).wellFormed = true := by decide

theorem test_desc_read_carries_16_bytes :
    (Instr.descReadResponse 0 (.okay (bytes 17 []))).wellFormed = false
      ∧ (Instr.descReadResponse 0 (.okay (bytes 16 []))).wellFormed = true := by decide

theorem test_list_piece_is_whole_words :
    (Instr.listReadResponse 0 (.okay (bytes 6 []))).wellFormed = false
      ∧ (Instr.listReadResponse 0 (.okay (bytes 64 []))).wellFormed = true := by decide

theorem test_tx_read_is_bounded :
    (Instr.txReadResponse 0 (.okay [])).wellFormed = false
      ∧ (Instr.txReadResponse 0 (.okay (bytes 49 []))).wellFormed = false := by decide

theorem test_narrow_write_fits :
    (Instr.registerWrite 0 .w8 0x100).wellFormed = false ∧ (Instr.registerWrite 0 .w16 0xFFFF).wellFormed = true := by decide

theorem test_no_word_spells_a_command : decodeTableWord 32 1 = none := rfl

/-! ## Tests of the commands, each of one step -/

/-- R3: 4 slots of 16 bits, role OUT, RELEASE, idle value 0xBEEF. -/
theorem test_configure_link_stores :
    let t := after (exec .configureLink (taking (command 2 [(16, 3), (17, 4), (18, 16), (19, 1), (20, 1), (22, 0xEF), (23, 0xBE)])
      State.reset))
    (t.link 3).config = some { slots := 4, width := 16, role := .roleOut, idleMode := .release, idleValue := 0xBEEF }
      ∧ lastReport t = some (2, .ok, 3, 0) ∧ (lastDone t).map Completion.tag = some 0x44332211 := by decide +kernel

/-- R155: link number 255 names no link, and is reported as read. -/
theorem test_configure_link_bad_number :
    lastReport (after (exec .configureLink (taking (command 2 [(16, 255), (17, 4), (18, 16)]) State.reset)))
      = some (2, .badParam, 255, 0) := by decide +kernel

/-- R4: role OUT locks in frame 1 with a LOCKED event. -/
theorem test_start_link_out_locks :
    let t := after (exec .startLink (taking (command 3 [(16, 0)]) (State.reset.setLink 0 (link .roleOut .off))))
    (t.link 0).state = .locked ∧ (t.link 0).frame = 1 ∧ (t.link 0).event.map LinkEvent.set = some 1 := by decide +kernel

/-- R4, check 3. -/
theorem test_start_link_not_configured :
    lastReport (after (exec .startLink (taking (command 3 [(16, 7)]) State.reset))) = some (3, .notConfigured, 7, 0) := by
  decide +kernel

/-- R5, R15: a stop performs the pending swap first. -/
theorem test_stop_link_performs_swap :
    let t := after (exec .stopLink (taking (command 4 [(16, 0)])
      (stage (link .roleOut .locked) (map true) (empty .tx .interleaved .starved))))
    (t.link 0).state = .off ∧ t.writer.list.map (fun x => (x.command, x.v0, x.tag)) = [(8, 4, 9), (4, 0, 0x44332211)] := by
  decide +kernel

/-- R5, check 3. -/
theorem test_stop_link_off :
    lastReport (after (exec .stopLink (taking (command 4 [(16, 0)]) State.reset))) = some (4, .linkOff, 0, 0) := by
  decide +kernel

/-- R24, R25: a list of 2 entries that crosses a 64-byte boundary is two pieces, in ascending order. -/
theorem test_write_slot_map_pieces :
    let t := after (exec .writeSlotMap (taking (command 5 [(16, 0), (18, 2), (24, 0x3C), (25, 0x80)])
      (stage (link .roleOut .off) (map false) Channel.reset)))
    t.transfer.map ListTransfer.pieces = some [(0, 4), (4, 4)] ∧ t.port.wait4 = [.listPiece 0, .listPiece 1]
      ∧ (t.window 1).use = 2 ∧ t.writer.list = [] := by decide +kernel

/-- R28. -/
theorem test_copy_slot_map :
    let t := after (exec .copySlotMap (taking (command 6 [(16, 0)]) (stage (link .roleOut .off) (map false) Channel.reset)))
    (t.map 0).standby = bank ∧ (t.map 0).active = bank ∧ lastReport t = some (6, .ok, 0, 0) := by decide +kernel

/-- R29: no window grants 512 bytes at 0. -/
theorem test_read_slot_map_window_fault :
    lastReport (after (exec .readSlotMap (taking (command 7 [(16, 0), (17, 1)])
      (stage (link .roleOut .off) (map false) Channel.reset)))) = some (7, .windowFault, 0, 0) := by decide +kernel

/-- R29, R171: bank ACTIVE copied; the word of slot 1 names lane 1 of channel 0 in both halves. -/
theorem test_read_slot_map_copy :
    let t := after (exec .readSlotMap (taking (command 7 [(16, 0), (25, 0x80)])
      (stage (link .roleOut .off) (map false) Channel.reset)))
    t.transfer.map (fun x => (u32At x.copy 0, u32At x.copy 4, u32At x.copy 508))
      = some (0x08020000, 0x09024001, 127) := by decide +kernel

/-- R32 to R34: the standby bank names CLOSED channel 0; the report is slot 0, CHANNEL_NOT_OPEN, receive half. -/
theorem test_swap_slot_map_invalid :
    (lastDone (after (exec .swapSlotMap (taking (command 8 [(16, 0)])
      (stage (link .roleOut .locked) { map false with standby := bank } Channel.reset))))).map
        (fun x => (x.status, x.v0, x.v1, x.v2, x.v3)) = some (.mapInvalid, 0, 2, 0, 0) := by decide +kernel

/-- R36: an empty standby bank is valid, and on a LOCKED link the swap waits. -/
theorem test_swap_slot_map_pends :
    let t := after (exec .swapSlotMap (taking (command 8 [(16, 0)]) (stage (link .roleOut .locked) (map false) Channel.reset)))
    (t.map 0).swapPending = true ∧ t.writer.list = [] ∧ t.writer.reservations = 1 ∧ t.cmd.state = .idle := by decide +kernel

/-- R45, R46: 2 lanes of 16 bits, threshold 8, a ring of 8 at 0x4000 in window 0. -/
theorem test_open_channel :
    let t := after (exec .openChannel (taking
      (command 9 [(16, 63), (17, 1), (18, 16), (19, 2), (20, 1), (21, 1), (22, 8), (24, 8), (26, 0xCD), (27, 0xAB), (33, 0x40)])
      (stage (link .roleOut .off) SlotMap.reset Channel.reset)))
    (t.chan 63).cfg.idleValue = some 0xABCD ∧ (t.window 0).use = 2 := by decide +kernel

/-- R45, check 4: threshold 8 on 4 lanes is 32 samples, above 24. -/
theorem test_open_channel_threshold :
    lastReport (after (exec .openChannel (taking (command 9 [(16, 1), (18, 8), (19, 4), (22, 8), (24, 8), (33, 0x40)])
      (stage (link .roleOut .off) SlotMap.reset Channel.reset)))) = some (9, .badParam, 1, 0) := by decide +kernel

/-- R49, R54: the close of a channel with nothing in flight ends at once, and lets the ring go. -/
theorem test_close_channel_ends :
    let t := after (exec .closeChannel (taking (command 0xA [(16, 0), (17, 1)])
      (stage (link .roleOut .off) SlotMap.reset (empty .rx .interleaved .starved))))
    (t.chan 0).state = .closed ∧ (t.window 0).use = 0
      ∧ (lastDone t).map (fun x => (x.command, x.status, x.v0, x.v1)) = some (0xA, .ok, 0, 5) := by decide +kernel

/-- R48: a GRACEFUL close of a named channel. -/
theorem test_close_channel_mapped :
    lastReport (after (exec .closeChannel (taking (command 0xA [(16, 0)])
      (stage (link .roleOut .off) (map false) (empty .rx .interleaved .starved))))) = some (0xA, .mapped, 0, 0) := by
  decide +kernel

/-- R59. -/
theorem test_resume_channel :
    let t := after (exec .resumeChannel (taking (command 0xB [(16, 0)])
      (stage (link .roleOut .off) SlotMap.reset { empty .rx .interleaved .halted with haltCause := some .busError })))
    (t.chan 0).state = .starved ∧ (t.chan 0).haltCause = none ∧ t.port.waitDesc 0 = true := by decide +kernel

/-- R60: state HALTED, cause WINDOW_FAULT, TX, 2 lanes, no group, no record: 3 + 2 * 8 + 32 + 512. -/
theorem test_query_channel_summary :
    (lastDone (after (exec .queryChannel (taking (command 0xC [(16, 0)])
      (stage (link .roleOut .off) SlotMap.reset
        { empty .tx .interleaved .halted with haltCause := some .windowFault }))))).map Completion.stamp = some 563 := by
  decide +kernel

/-- R141: a window in use is refused with its use count. -/
theorem test_set_window_in_use :
    lastReport (after (exec .setWindow (taking (command 0xD [(16, 1), (17, 1), (18, 3), (32, 0xFF), (33, 0x0F)])
      (stage (link .roleOut .off) SlotMap.reset Channel.reset)))) = some (0xD, .inUse, 1, 1) := by decide +kernel

/-- R141: one page at 0, READ alone. -/
theorem test_set_window_stores :
    (after (exec .setWindow (taking (command 0xD [(16, 7), (17, 1), (18, 1), (32, 0xFF), (33, 0x0F)]) State.reset))).window 7
      = { enabled := true, base := 0, limit := 0xFFF, read := true, write := false, use := 0 } := by decide +kernel

/-- R118: N of 0 is refused; a counter at the new N fires. -/
theorem test_set_coalescing :
    lastReport (after (exec .setCoalescing (taking (command 0xE []) State.reset))) = some (0xE, .badParam, 0, 0)
      ∧ (let t := after (exec .setCoalescing (taking (command 0xE [(16, 3)])
          { State.reset with coal := { count := 9, time := 0, counter := 3, timer := some 1 } }))
        t.irqCause.completion = true ∧ t.coal = { count := 3, time := 0, counter := 0, timer := none }
          ∧ lastReport t = some (0xE, .ok, 0, 9)) := by decide +kernel

/-- R154: NOP reports the head at its take, and the head moves on. -/
theorem test_nop_reports_head :
    let t := after (exec .nop (taking (command 1 []) State.reset))
    lastReport t = some (1, .ok, 0, 4) ∧ t.cmd.head = 5 ∧ t.cmd.state = .idle ∧ t.writer.reservations = 0 := by
  decide +kernel

/-- R150, R155. -/
theorem test_unknown_command :
    lastReport (after (exec .unknownCommand (taking (command 0xFF []) State.reset)))
      = some (0, .unknownCommand, 0, 0xFF) := by decide +kernel

/-! ## Tests of the register window -/

/-- R161: the load address is the configuration address. -/
theorem test_enable_loads :
    let t := after (exec (.enable 0xABCDEF) { State.reset with device := { Device.reset with configAddr := 0x40 } })
    t.device.state = .loading ∧ t.device.loadAddr = some 0x40 ∧ t.port.wait4 = [.configRead] := by decide +kernel

/-- R167: with nothing outstanding the reset ends at once and keeps the configuration address. -/
theorem test_reset_keeps_address :
    let t := after (exec (.reset 0) (running { State.reset with device := { Device.reset with configAddr := 0x40 } }))
    t.device.state = .off ∧ t.device.configAddr = 0x40 ∧ t.cmd = CmdProc.reset := by decide +kernel

/-- R147, R148: 16 records may wait, 17 may not. -/
theorem test_tail_range :
    (after (exec (.cmdqTailWrite 20) (running State.reset))).cmd.state = .fetching
      ∧ (after (exec (.cmdqTailWrite 21) (running State.reset))).writer.devEvent.map DeviceEvent.kinds = some 0x202 := by
  decide +kernel

/-- R81, R82: bits 16 to 21 name the channel; a CLOSED one rejects the post. -/
theorem test_post :
    ((after (exec (.chanPostWrite 0x00000008) (withChan (empty .rx .interleaved .starved)))).chan 0).producer = 8
      ∧ (after (exec (.chanPostWrite 0x00050008) (withChan (empty .rx .interleaved .starved)))).writer.devEvent.map
          (fun e => (e.channel, e.index, e.reason)) = some (some 5, 8, .notOpen) := by decide +kernel

/-- R108: with a write outstanding the limit is one past the write index. -/
theorem test_head_limit :
    let s := { running State.reset with writer := { (running State.reset).writer with outstanding := true } }
    (after (exec (.cplqHeadWrite 1) s)).writer.hostHead = 1
      ∧ (after (exec (.cplqHeadWrite 2) s)).writer.devEvent.map DeviceEvent.kinds = some 0x403 := by decide +kernel

/-- R119, R120. -/
theorem test_irq_registers :
    let s := { State.reset with irqCause := { completion := true, fault := true } }
    (after (exec (.irqCauseWrite 2) s)).irqCause = { completion := true, fault := false }
      ∧ (after (exec (.irqMaskWrite 2) s)).intn = true := by decide +kernel

/-- R159: bits 0 to 4 of CONFIG_ADDR_LO are dropped; a narrow write is ignored. -/
theorem test_config_address :
    (after (exec (.registerWrite 8 .w32 0xFFFFFFFF) State.reset)).device.configAddr = 0xFFFFFFE0
      ∧ (after (exec (.registerWrite 8 .w16 0xFFFF) State.reset)).device.configAddr = 0 := by decide +kernel

/-! ## Tests of the link events -/

/-- R8. -/
theorem test_sync_pulse_locks :
    let t := after (exec (.syncPulseLock 0) (stage (link .roleIn .hunting) (map false) Channel.reset))
    (t.link 0).state = .locked ∧ (t.link 0).frame = 8 ∧ (t.link 0).bitPos = some 0 := by decide +kernel

/-- R9, R15: the swap is performed at the frame start, stamped with the new frame. -/
theorem test_sync_on_time_swaps :
    let t := after (exec (.syncOnTime 0) (stage (atEnd { link .roleIn .locked with missed := 1 }) (map true) Channel.reset))
    (t.map 0).standby = bank ∧ (t.link 0).missed = 0
      ∧ (lastDone t).map (fun x => (x.v0, x.stamp, x.tag)) = some (2, 8, 9) := by decide +kernel

/-- R10. -/
theorem test_freewheel :
    let t := after (exec (.freewheel 0) (stage (atEnd (link .roleIn .locked)) (map false) Channel.reset))
    (t.link 0).missed = 1 ∧ (t.link 0).frame = 8 ∧ (t.link 0).state = .locked := by decide +kernel

/-- R10, R17, R70: the second missed boundary loses the link, whose frame counter stays. -/
theorem test_link_loss :
    let t := after (exec (.linkLoss 0) (stage (atEnd { link .roleIn .locked with missed := 1 }) (map false)
      (empty .rx .interleaved .starved)))
    (t.link 0).state = .hunting ∧ (t.link 0).frame = 7 ∧ (t.link 0).event.map LinkEvent.set = some 2
      ∧ (t.chan 0).gapMark = true := by decide +kernel

/-- R11, R69: a slip cuts the fill group short and starts a frame. -/
theorem test_slip :
    let g : Group := { cond := .filling, samples := [some 1, none], stamp := some 7, source := none, nextLane := 1 }
    let t := after (exec (.slip 0) (stage (atSlot 1 true (link .roleIn .locked)) (map false)
      { empty .rx .interleaved .starved with groups := [g] }))
    (t.link 0).frame = 8 ∧ (t.chan 0).groups = [] ∧ (t.chan 0).lost = 6 ∧ (t.chan 0).gapMark = true := by decide +kernel

/-- R7. -/
theorem test_frame_boundary_out :
    ((after (exec (.frameBoundaryOut 0) (stage (atEnd (link .roleOut .locked)) (map false) Channel.reset))).link 0).frame = 8 := by
  decide +kernel

/-- R14, R67: an unassigned slot drives the link's idle value; lane 0 of a starved channel its own. R13: a launch out of order does
nothing. -/
theorem test_transmit_idle_words :
    let s := stage (link .roleOut .locked) (map false) (empty .tx .interleaved .starved)
    let late := stage (atSlot 3 false (link .roleOut .locked)) (map false) (empty .tx .interleaved .starved)
    ((after (exec (.transmitSlotLaunch 0 3) late)).link 0).txd = some 0xAB
      ∧ ((after (exec (.transmitSlotLaunch 0 0) s)).link 0).txd = some 0xCD
      ∧ ((after (exec (.transmitSlotLaunch 0 0) s)).chan 0).lost = 6 ∧ after (exec (.transmitSlotLaunch 0 1) s) = s := by
  decide +kernel

/-- R67: a WHOLE head launches, and the stamp of frame 0 is its pass's. -/
theorem test_transmit_launches :
    let t := after (exec (.transmitSlotLaunch 0 0) (stage (link .roleOut .locked) (map false)
      { holding .tx .interleaved .active (record .current (pass 2 0)) with groups := [txGroup .whole 0 0] }))
    (t.link 0).txd = some 0xA1 ∧ (t.chan 0).list.map (fun r => r.pass.stamp) = [some 7]
      ∧ (t.chan 0).groups.map Group.nextLane = [1] := by decide +kernel

/-- R6, R8: FSY held high gives one pulse, at its first high sample. -/
theorem test_bit_clock_one_pulse :
    let s := stage (link .roleIn .hunting) (map false) Channel.reset
    let t := after (step { s with clocks := [⟨0, true, false⟩] })
    let u := after (step { t with clocks := [⟨0, true, false⟩] })
    (t.link 0).state = .locked ∧ (t.link 0).bitPos = some 0 ∧ (t.link 0).frame = 8 ∧ t.clocks = []
      ∧ (u.link 0).bitPos = some 1 ∧ (u.link 0).frame = 8 := by decide +kernel

/-- The example of spec/01, step 7: a sync pulse at bit position 20 of frame 4 is a slip, and frame 5 starts. -/
theorem test_bit_clock_slip :
    let l := { link .roleIn .locked with frame := 4, bitPos := some 19, launched := 3, completed := 2 }
    let t := after (step { stage l (map false) Channel.reset with clocks := [⟨0, true, false⟩] })
    (t.link 0).frame = 5 ∧ (t.link 0).bitPos = some 0 ∧ (t.link 0).event.map LinkEvent.set = some 4 := by decide +kernel

/-- R13: after bit 7 slot 0 completes with the last 8 bits of RXD, and slot 1 launches at bit 8. -/
theorem test_bit_clock_ends_slot :
    let l := { link .roleIn .locked with bitPos := some 7, launched := 1 }
    let t := after (step { stage l (map false) (empty .rx .interleaved .starved) with clocks := [⟨0, false, true⟩] })
    (t.chan 0).groups.map Group.samples = [[some 0x56, none]] ∧ (t.link 0).bitPos = some 8 ∧ (t.link 0).rxBits = 0x24AD
      ∧ (t.link 0).launched = 2 ∧ (t.link 0).completed = 1 ∧ (t.link 0).txdLevel = some true := by decide +kernel

/-- R68: lane 1 was launched, by its row, at the end of slot 0; that end departs nothing, and the end of slot 1 departs the group. -/
theorem test_bit_clock_departs_behind_last_lane :
    let at1 := fun p done => after (step { stage { link .roleOut .locked with bitPos := some p, launched := 2, completed := done }
      (map false) { holding .tx .interleaved .active (record .current (pass 2 0)) with groups := [txGroup .launching 0 2] } with
      clocks := [⟨0, false, false⟩] })
    (((at1 8 0).chan 0).groups.length = 1 ∧ ((at1 8 0).link 0).completed = 1)
      ∧ ((at1 15 1).chan 0).groups = [] ∧ ((at1 15 1).chan 0).moved = 1 := by decide +kernel

/-- R10: the bit clock after position 31 without a pulse freewheels, and the second time loses the link. -/
theorem test_bit_clock_boundary :
    let s := fun n => stage { link .roleIn .locked with missed := n, bitPos := some 31, launched := 4, completed := 3 } (map false)
      Channel.reset
    ((after (step { s 0 with clocks := [⟨0, false, false⟩] })).link 0).frame = 8
      ∧ ((after (step { s 1 with clocks := [⟨0, false, false⟩] })).link 0).state = .hunting := by decide +kernel

/-- R6, R11: a boundary comes after the last bit position, and a slip off it. -/
theorem test_boundary_and_slip_out_of_place :
    let s := stage (link .roleIn .locked) (map false) Channel.reset
    let e := stage (atEnd (link .roleIn .locked)) (map false) Channel.reset
    after (exec (.syncOnTime 0) s) = s ∧ after (exec (.slip 0) e) = e := by decide +kernel

/-- R64, R65: lane 0 opens a group, lane 1 makes it WHOLE. R13: a complete repeated does nothing. -/
theorem test_receive_two_lanes :
    let t := after (exec (.receiveSlotComplete 0 0 0x1234) (stage (atSlot 0 true (link .roleOut .locked)) (map false)
      (empty .rx .interleaved .starved)))
    let u := after (exec (.receiveSlotComplete 0 1 0x56) (after (exec (.transmitSlotLaunch 0 1) t)))
    ((t.chan 0).groups.map Group.samples = [[some 0x34, none]])
      ∧ (u.chan 0).groups.map (fun g => (g.cond, g.samples))
          = [(.whole, [some 0x34, some 0x56])]
      ∧ after (exec (.receiveSlotComplete 0 1 0x56) u) = u := by decide +kernel

/-- R64: 16 groups of 2 lanes fill the FIFO; the frame is dropped, with OVERRUN on the CURRENT record. -/
theorem test_receive_overrun :
    let t := after (exec (.receiveSlotComplete 0 0 1) (stage (atSlot 0 true (link .roleOut .locked)) (map false)
      { holding .rx .interleaved .active (record .current (pass 2 0)) with groups := List.replicate 16 (whole 1 2) }))
    (t.chan 0).groups.length = 16 ∧ (t.chan 0).lost = 6
      ∧ (t.chan 0).list.map (fun r => (r.pass.overrun, r.pass.tally)) = [(true, 1)] := by decide +kernel

/-- R68. -/
theorem test_group_departure :
    let t := after (exec (.groupDeparture 0) (withChan
      { holding .tx .interleaved .active (record .current (pass 2 0)) with groups := [txGroup .launching 0 2] }))
    (t.chan 0).groups = [] ∧ (t.chan 0).moved = 1
      ∧ (t.chan 0).list.map (fun r => (r.pass.departed, r.pass.finished)) = [(1, 1)] := by decide +kernel

/-! ## Tests of the Memory Port -/

/-- R73, R77: an RX grant of threshold 2 takes two groups, interleaved, to address plus 2 frames of 2 bytes. -/
theorem test_grant_data :
    let s := withChan { holding .rx .interleaved .active (record .current (pass 2 0)) with
      groups := [whole 1 2, whole 3 4, whole 5 6] }
    let t := after (exec .grant (s.present 0))
    (t.port.entry 0).map (fun x => (x.kind, x.cls, x.address, x.bytes)) = some (.rxWrite, 2, 0x8004, [1, 2, 3, 4])
      ∧ (t.chan 0).groups = [whole 5 6] ∧ t.port.data 0 = 1 := by decide +kernel

/-- R83, R128: a descriptor read at the fetch position, 16 bytes a descriptor. -/
theorem test_grant_desc :
    let s := withChan { empty .rx .interleaved .starved with fetch := 9, producer := 10, consumed := 9 }
    ((after (exec .grant (s.present 0))).port.entry 0).map (fun x => (x.kind, x.address, x.length))
      = some (.descRead, 0x4010, 16) := by decide +kernel

/-- R107: an OKAY takes the entry off, the write index moves, and the coalescer's N of 1 fires. -/
theorem test_cpl_write_response :
    let s := issued (transaction .cplWrite 0 none 32 .plain) (running State.reset)
    let t := after (exec (.cplWriteResponse 0 .okay) { s with writer := { s.writer with outstanding := true } })
    t.writer.writeIndex = 1 ∧ t.writer.outstanding = false ∧ t.irqCause.completion = true := by decide +kernel

/-- R107, R164. -/
theorem test_cpl_write_error :
    let t := after (exec (.cplWriteResponse 0 .error) (issued (transaction .cplWrite 0 none 32 .plain) (running State.reset)))
    t.device.state = .faulted ∧ t.device.fault = .cplWriteError ∧ t.irqCause.fault = true ∧ t.writer.writeIndex = 0 := by
  decide +kernel

/-- R73: the frames of an answered write count as moved and answered. -/
theorem test_rx_write_response :
    let s := withChan { holding .rx .interleaved .active (record .current (pass 2 0)) with requests := [request 1 1 0] }
    let t := after (exec (.rxWriteResponse 0 .okay) (issued (transaction .rxWrite 2 (some 0) 4 (.data 0 0)) s))
    (t.chan 0).moved = 2 ∧ (t.chan 0).requests = [] ∧ (t.chan 0).list.map (fun r => r.pass.answered) = [2]
      ∧ t.port.data 0 = 0 := by decide +kernel

/-- R99: an ERROR halts the channel, and its frames are lost. -/
theorem test_rx_write_error :
    let s := withChan { holding .rx .interleaved .active (record .current (pass 2 0)) with requests := [request 1 1 0] }
    let t := after (exec (.rxWriteResponse 0 .error) (issued (transaction .rxWrite 2 (some 0) 4 (.data 0 0)) s))
    (t.chan 0).state = .halted ∧ (t.chan 0).lost = 7
      ∧ (t.chan 0).list.map (fun r => (r.state, r.finalStatus)) = [(.retiring, .busError)] := by decide +kernel

/-- R76: the bytes of an interleaved read, frame by frame, fill the groups reserved for it. -/
theorem test_tx_read_response :
    let s := withChan { holding .tx .interleaved .active (record .current (pass 2 0)) with
      requests := [{ request 1 1 0 with samples := [] }]
      groups := [txGroup .waiting 0 0, txGroup .waiting 1 0] }
    let t := after (exec (.txReadResponse 0 (.okay [1, 2, 3, 4])) (issued (transaction .txRead 2 (some 0) 4 (.data 0 0)) s))
    (t.chan 0).groups.map (fun g => (g.cond, g.samples)) = [(.whole, [some 1, some 2]), (.whole, [some 3, some 4])] := by
  decide +kernel

/-- R85, R86: 8 frames at 0x8000 lie in window 1; the record becomes CURRENT and the channel ACTIVE. -/
theorem test_desc_read_response :
    let s := stage (link .roleOut .off) SlotMap.reset { empty .rx .interleaved .starved with descRead := .outstanding }
    let t := after (exec (.descReadResponse 0 (.okay (bytes 16 [(1, 0x80), (8, 8), (10, 0x55), (12, 1)])))
      (issued (transaction .descRead 3 (some 0) 16 .plain) s))
    (t.chan 0).state = .active ∧ (t.window 1).use = 2
      ∧ (t.chan 0).list.map (fun r => (r.state, r.frames, r.tag, r.notify)) = [(.current, 8, 0x55, true)] := by
  decide +kernel

/-- R85, R97: a frame count of 0 halts the channel with BAD_DESCRIPTOR. -/
theorem test_desc_read_malformed :
    let s := stage (link .roleOut .off) SlotMap.reset { empty .rx .interleaved .starved with descRead := .outstanding }
    let t := after (exec (.descReadResponse 0 (.okay (bytes 16 [(1, 0x80)])))
      (issued (transaction .descRead 3 (some 0) 16 .plain) s))
    (t.chan 0).state = .halted ∧ (t.chan 0).haltCause = some .badDescriptor := by decide +kernel

/-- R148, R149: the record comes in hand, and with a place free its reservation is granted in the same change. -/
theorem test_cmd_read_response :
    let s := running State.reset
    let t := after (exec (.cmdReadResponse 0 (.okay (command 1 [])))
      (issued (transaction .cmdRead 4 none 64 (.head 4)) { s with cmd := { s.cmd with state := .fetching } }))
    t.cmd.state = .taking ∧ t.cmd.inHand = some (command 1 []) ∧ t.writer.reservations = 1 := by decide +kernel

/-- A transfer of one list entry at 0x8000, its piece asked for and granted. -/
def oneEntry (dir : ListDir) : ListTransfer :=
  { link := 0, dir := dir, window := 1, tag := 6, base := 0x8000, pieces := [(0, 4)], issued := 1, answered := 0, held := [],
    copy := [1, 2, 3, 4], error := false, stopped := false }

def transferring (dir : ListDir) (kind : TransKind) : State :=
  issued (transaction kind 4 none 4 (.piece 0))
    { taking (command 5 []) (stage (link .roleOut .off) (map false) Channel.reset) with transfer := some (oneEntry dir) }

/-- R26, R171: the list word 0x08020003 assigns slot 3 in both directions; slot 128 is refused at position 0. -/
theorem test_list_read_response :
    let t := after (exec (.listReadResponse 0 (.okay [3, 0, 2, 8])) (transferring .readList .listRead))
    let u := after (exec (.listReadResponse 0 (.okay [128, 0, 2, 8])) (transferring .readList .listRead))
    (t.map 0).standby[3] = { rx := some { chan := 0, lane := 0 }, tx := some { chan := 0, lane := 0 } }
      ∧ t.transfer = none ∧ (t.window 1).use = 0 ∧ lastReport t = some (5, .ok, 0, 0)
      ∧ (lastDone u).map (fun x => (x.status, x.v0, x.v1)) = some (.badParam, 0, 1) := by decide +kernel

/-- R30: an ERROR on a copy write. -/
theorem test_list_write_response :
    lastReport (after (exec (.listWriteResponse 0 .error) (transferring .writeCopy .listWrite)))
      = some (7, .busError, 0, 0) := by decide +kernel

/-- A configuration record: queues of 16 records at 0x1000 and 32 completions at 0x2000, N of 4, T of 100. -/
def goodConfig : List Byte := bytes 32 [(1, 0x10), (9, 0x20), (16, 4), (17, 5), (20, 4), (22, 100)]

def loading : State :=
  issued (transaction .configRead 4 none 32 .plain)
    { State.reset with device := { Device.reset with state := .loading, loadAddr := some 0 } }

/-- R162, R163. -/
theorem test_config_read_response :
    let t := after (exec (.configReadResponse 0 (.okay goodConfig)) loading)
    let u := after (exec (.configReadResponse 0 (.okay (bytes 32 []))) loading)
    t.device.state = .running ∧ t.cmd.queue = some { base := 0x1000, size := 16 }
      ∧ t.writer.queue = some { base := 0x2000, size := 32 } ∧ t.coal = { count := 4, time := 100, counter := 0, timer := none }
      ∧ u.device.state = .faulted ∧ u.device.fault = .configInvalid := by decide +kernel

/-! ## Tests of the Completion Writer, the coalescer and the pins -/

/-- R111: the event record of the lowest link goes first. -/
theorem test_admission_lowest_link :
    let e : LinkEvent := { locked := true, lost := false, slip := false, slips := 0, losses := 0, linkState := .locked,
                           stamp := 9 }
    let t := after (exec .admission (running ((State.reset.setLink 2 { link .roleIn .locked with event := some e }).setLink 5
      { link .roleIn .locked with event := some e })))
    (lastDone t).map (fun x => (x.kind, x.source, x.stamp)) = some (.linkEvent, 2, 9)
      ∧ (t.link 2).event = none ∧ (t.link 5).event = some e := by decide +kernel

/-- R117: the tick that reaches T fires. -/
theorem test_timebase_tick :
    let s := { State.reset with coal := { count := 9, time := 2, counter := 1, timer := some 0 } }
    let t := after (exec .timebaseTick s)
    t.coal.timer = some 1 ∧ (after (exec .timebaseTick t)).irqCause.completion = true
      ∧ (after (exec .coalescingTimerExpiry t)).coal.counter = 0 := by decide +kernel

/-- R117, assumption log 5. -/
theorem test_coalescing_count :
    (after (exec .coalescingCountReached { State.reset with coal := { count := 2, time := 0, counter := 2, timer := some 0 } })).coal
      = { count := 2, time := 0, counter := 0, timer := none } := by decide +kernel

/-- R54. -/
theorem test_close_end :
    let ch := { empty .rx .interleaved .closing with closeRec := some { mode := .abort, tag := 8 } }
    let t := after (exec (.closeEnd 0) (stage (link .roleOut .off) SlotMap.reset ch))
    (t.chan 0).state = .closed ∧ (t.window 0).use = 0 ∧ (lastDone t).map (fun x => (x.tag, x.v1)) = some (8, 5) := by
  decide +kernel

/-- R167. -/
theorem test_soft_reset_end :
    (after (exec .softResetEnd { running State.reset with device := { Device.reset with state := .resetting } })).device.state
      = .off := by decide +kernel

/-- R168. -/
theorem test_power_on_reset :
    let low := after (exec .powerOnReset (running { State.reset with device := { Device.reset with configAddr := 0x40 } }))
    low.device.configAddr = 0 ∧ low.device.resetLow = true ∧ after (exec .powerOnResetRelease low) = State.reset :=
  ⟨rfl, rfl, rfl⟩

/-- R129, R168: a stale response is matched by its tag alone; a write's, it brings a CMD_READ none of its bytes. -/
theorem test_stale_response :
    let s := running State.reset
    let t := after (exec (.listWriteResponse 0 .okay)
      (issued (transaction .cmdRead 4 none 64 (.head 4)) { s with cmd := { s.cmd with state := .fetching } }))
    t.port.entry 0 = none ∧ t.cmd.state = .taking ∧ t.cmd.inHand.map List.length = some 64 ∧ t.freeBytes = 64 := by
  decide +kernel

/-- R94, R109: an ended pass answered before an older one waits behind it. -/
theorem test_pass_completions_in_order :
    let r := { record .current (pass 0 0) with
      ended := [pass 8 6], passCpls := [(2, doneReport 0 0 .done 0 0)] }
    (holding .rx .interleaved .active r).offers = none
      ∧ (holding .rx .interleaved .active { r with ended := [] }).offers = some (doneReport 0 0 .done 0 0) := by decide +kernel

/-- R129. -/
theorem test_unmatched_response : exec (.responseMatchingNoTransaction 3) State.reset = .next State.reset := rfl

/-! ## The hypotheses of the statements can be met

For each statement with hypotheses, a state and operands that meet them together, at the ends of their ranges where a clause has
one. -/

theorem witness_StepRunsFrontCommand :
    ({ State.reset with pending := [.grant, .admission] } : State).pending = .grant :: [.admission]
      ∧ (State.reset.pending = [] ∧ State.reset.clocks = [])
      ∧ ({ State.reset with clocks := [⟨0, true, false⟩] } : State).clocks = ⟨0, true, false⟩ :: [] := ⟨rfl, ⟨rfl, rfl⟩, rfl⟩

/-- A record that waits in WAIT_SPACE with one place and one reservation left to grant. -/
def waiting (r : List Byte) : State :=
  { running State.reset with
    cmd := { (running State.reset).cmd with state := .waitSpace, inHand := some r }
    writer := { (running State.reset).writer with
      reservations := 23, list := List.replicate 8 (doneReport 1 0 .ok 0 0) } }

theorem grantable (s : State) (h : s.writer.list.length + s.writer.reservations < 32 ∧ s.writer.reservations < 24
    ∧ s.writer.devEvent = none ∧ ∀ l, (s.link l).event = none) : s.Grantable := ⟨h.1, h.2.1, h.2.2.1, h.2.2.2⟩

theorem witness_CommandTakesReservationFirst :
    (∀ r ∈ [command 1 [], command 0 [], command 0x0F []],
      let s := waiting r
      s.device.state = .running ∧ s.cmd.state = .waitSpace ∧ s.cmd.inHand = some r ∧ s.transfer = none ∧ s.Grantable)
    ∧ (Instr.nop, CmdKind.nop) ∈ commandRows ∧ byteAt (command 1 []) 0 = CmdKind.nop.code
    ∧ byteAt (command 0 []) 0 = 0 ∧ 0x0E < (byteAt (command 0x0F []) 0).toNat :=
  ⟨fun _ _ => ⟨rfl, rfl, rfl, rfl, grantable _ ⟨(by decide : 8 + 23 < 32), (by decide : 23 < 24), rfl,
      (by decide +kernel : ∀ l, (State.reset.link l).event = none)⟩⟩,
    by decide +kernel, by decide +kernel, by decide +kernel, by decide +kernel⟩

theorem witness_EventsNeedTheirConditions :
    ((Instr.nop, CmdKind.nop) ∈ commandRows ∧ State.reset.cmd.inHand = none ∧ State.reset.device.state ≠ .running
      ∧ (taking (command 2 []) State.reset).cmd.inHand = some (command 2 [])
      ∧ byteAt (command 2 []) 0 ≠ CmdKind.nop.code)
    ∧ (let s := stage (link .roleOut .off) (map false) Channel.reset
      (s.link 0).config.map LinkConfig.role = some .roleOut
        ∧ (s.link 0).state ≠ .hunting ∧ (s.link 0).state ≠ .locked ∧ (s.link 0).missed ≠ 1)
    ∧ ((stage { link .roleIn .locked with missed := 1 } (map false) Channel.reset).link 0).missed ≠ 0
    ∧ (let s := stage (link .roleIn .locked) (map false) Channel.reset
      (s.link 0).state = .locked ∧ (s.link 0).bitPos = some 0 ∧ (s.link 0).launched = 0
        ∧ (s.link 0).config.map (fun c => c.slots * c.width - 1) = some 31 ∧ ¬ (4 : SlotId).val < 4
        ∧ (s.link 0).launched ≠ (1 : SlotId).val ∧ (s.link 0).launched ≤ (0 : SlotId).val)
    ∧ (let s := stage { atSlot 1 true (link .roleIn .locked) with completed := 0 } (map false) Channel.reset
      (s.link 0).launched = (2 : SlotId).val ∧ (s.link 0).completed + 1 < (2 : SlotId).val
        ∧ (s.link 0).completed ≠ (1 : SlotId).val)
    ∧ let s := stage (atEnd (link .roleIn .locked)) (map false) Channel.reset
      (s.link 0).bitPos = some 31 ∧ (s.link 0).completed = 4 ∧ (s.link 0).launched ≠ (3 : SlotId).val ∧ (s.link 0).completed ≠ (3 : SlotId).val := by
  decide +kernel

/-! ### Link and slot map commands -/

theorem witness_ConfigureLinkChecksAndStores :
    (∃ (s : State) (r : List Byte), s.Taking r ∧ byteAt r 0 = 2 ∧ 8 ≤ (byteAt r 16).toNat)
    ∧ (∃ (s : State) (r : List Byte), s.Taking r ∧ byteAt r 0 = 2 ∧ (byteAt r 16).toNat = (0 : LinkId).val ∧ (s.link 0).state ≠ .off)
    ∧ (∃ (s : State) (r : List Byte), s.Taking r ∧ byteAt r 0 = 2 ∧ (byteAt r 16).toNat = (7 : LinkId).val ∧ (s.link 7).state = .off
      ∧ (byteAt r 17).toNat = 3)
    ∧ ∀ n ∈ [4#8, 128#8], ∃ (s : State) (r : List Byte), s.Taking r ∧ byteAt r 0 = 2 ∧ (byteAt r 16).toNat = (7 : LinkId).val
      ∧ (s.link 7).state = .off ∧ (4 ≤ (byteAt r 17).toNat ∧ (byteAt r 17).toNat ≤ 128)
      ∧ (byteAt r 18 = 8 ∨ byteAt r 18 = 16) ∧ (byteAt r 19).toNat ≤ 1 ∧ (byteAt r 20).toNat ≤ 1
      ∧ ReservedZero r [0, 4, 5, 6, 7, 16, 17, 18, 19, 20, 22, 23] ∧ byteAt r 17 = n := by
  refine ⟨⟨_, _, taking_taking (command 2 [(16, 8)]) State.reset, by decide +kernel⟩,
    ⟨_, _, taking_taking (command 2 []) (stage (link .roleIn .locked) (map false) Channel.reset), by decide +kernel⟩,
    ⟨_, _, taking_taking (command 2 [(16, 7), (17, 3), (18, 8)]) State.reset, by decide +kernel⟩, ?_⟩
  intro n hn
  refine ⟨_, _, taking_taking (command 2 [(16, 7), (17, n), (18, 8)]) State.reset, ?_⟩
  fin_cases hn <;> decide +kernel

theorem witness_StartLinkHuntsOrLocks :
    (∃ (s : State) (r : List Byte), s.Taking r ∧ byteAt r 0 = 3 ∧ 8 ≤ (byteAt r 16).toNat)
    ∧ (∃ (s : State) (r : List Byte), s.Taking r ∧ byteAt r 0 = 3 ∧ (byteAt r 16).toNat = (0 : LinkId).val ∧ ¬ ReservedZero r [0, 4, 5, 6, 7, 16])
    ∧ ∀ st ∈ [LinkState.off, .hunting], ∀ role ∈ [SyncRole.roleIn, .roleOut], ∃ (s : State) (r : List Byte), s.Taking r ∧ byteAt r 0 = 3
      ∧ (byteAt r 16).toNat = (0 : LinkId).val ∧ ReservedZero r [0, 4, 5, 6, 7, 16] ∧ (s.link 0).state = st
      ∧ (s.link 0).config.map LinkConfig.role = some role ∧ (s.link 1).config = none := by
  refine ⟨⟨_, _, taking_taking (command 3 [(16, 8)]) State.reset, by decide +kernel⟩,
    ⟨_, _, taking_taking (command 3 [(63, 1)]) State.reset, by decide +kernel⟩, fun st hst role hrole => ?_⟩
  refine ⟨_, _, taking_taking (command 3 []) (stage (link role st) (map false) Channel.reset), ?_⟩
  fin_cases hst <;> fin_cases hrole <;> decide +kernel

theorem witness_StopLinkOutcomes :
    (∃ (s : State) (r : List Byte), s.Taking r ∧ byteAt r 0 = 4 ∧ 8 ≤ (byteAt r 16).toNat)
    ∧ (∃ (s : State) (r : List Byte), s.Taking r ∧ byteAt r 0 = 4 ∧ (byteAt r 16).toNat = (0 : LinkId).val ∧ ¬ ReservedZero r [0, 4, 5, 6, 7, 16])
    ∧ (∀ st ∈ [LinkState.off, .hunting, .locked], ∃ (s : State) (r : List Byte), s.Taking r ∧ byteAt r 0 = 4
      ∧ (byteAt r 16).toNat = (0 : LinkId).val ∧ ReservedZero r [0, 4, 5, 6, 7, 16] ∧ (s.link 0).state = st
      ∧ (s.map 0).swapPending = false)
    ∧ ∃ (s : State) (r : List Byte), s.Taking r ∧ byteAt r 0 = 4 ∧ (byteAt r 16).toNat = (0 : LinkId).val ∧ ReservedZero r [0, 4, 5, 6, 7, 16]
      ∧ (s.link 0).state = .locked ∧ (s.map 0).swapPending = true ∧ (s.map 0).swapTag = some 9 := by
  refine ⟨⟨_, _, taking_taking (command 4 [(16, 8)]) State.reset, by decide +kernel⟩,
    ⟨_, _, taking_taking (command 4 [(3, 1)]) State.reset, by decide +kernel⟩, fun st hst => ?_,
    ⟨_, _, taking_taking (command 4 []) (stage (link .roleIn .locked) (map true) Channel.reset), by decide +kernel⟩⟩
  refine ⟨_, _, taking_taking (command 4 []) (stage (link .roleIn st) (map false) Channel.reset), ?_⟩
  fin_cases hst <;> decide +kernel

theorem witness_MapCommandsSharedRefusals :
    (∃ (s : State) (r : List Byte), s.Taking r ∧ byteAt r 0 = (6 : BitVec 4).setWidth 8 ∧ 8 ≤ (byteAt r 16).toNat)
    ∧ (∃ (s : State) (r : List Byte), s.Taking r ∧ byteAt r 0 = (6 : BitVec 4).setWidth 8
      ∧ (byteAt r 16).toNat = (0 : LinkId).val ∧ ¬ (ReservedZero r [0, 4, 5, 6, 7, 16] ∧ True))
    ∧ (∃ (s : State) (r : List Byte), s.Taking r ∧ byteAt r 0 = (5 : BitVec 4).setWidth 8
      ∧ (byteAt r 16).toNat = (0 : LinkId).val ∧ ¬ (1 ≤ (u16At r 18).toNat))
    ∧ (∃ (s : State) (r : List Byte), s.Taking r ∧ byteAt r 0 = (5 : BitVec 4).setWidth 8
      ∧ (byteAt r 16).toNat = (0 : LinkId).val ∧ (s.map 0).swapPending = true
      ∧ ReservedZero r [0, 4, 5, 6, 7, 16, 18, 19, 24, 25, 26, 27, 28, 29, 30, 31] ∧ (u16At r 18).toNat = 128
      ∧ (u64At r 24).toNat % 4 = 0)
    ∧ (∃ (s : State) (r : List Byte), s.Taking r ∧ byteAt r 0 = (7 : BitVec 4).setWidth 8
      ∧ (byteAt r 16).toNat = (0 : LinkId).val ∧ (s.map 0).swapPending = true
      ∧ ReservedZero r [0, 4, 5, 6, 7, 16, 17, 24, 25, 26, 27, 28, 29, 30, 31] ∧ (byteAt r 17).toNat = 1
      ∧ (u64At r 24).toNat % 4 = 0)
    ∧ ∀ kind ∈ [6#4, 8#4], ∃ (s : State) (r : List Byte), s.Taking r ∧ byteAt r 0 = kind.setWidth 8
      ∧ (byteAt r 16).toNat = (0 : LinkId).val ∧ (s.map 0).swapPending = true ∧ ReservedZero r [0, 4, 5, 6, 7, 16] := by
  refine ⟨⟨_, _, taking_taking (command 6 [(16, 8)]) State.reset, by decide +kernel⟩,
    ⟨_, _, taking_taking (command 6 [(17, 1)]) State.reset, by decide +kernel⟩,
    ⟨_, _, taking_taking (command 5 []) State.reset, by decide +kernel⟩,
    ⟨_, _, taking_taking (command 5 [(18, 128), (25, 0x80)]) (stage (link .roleIn .locked) (map true) Channel.reset),
      by decide +kernel⟩,
    ⟨_, _, taking_taking (command 7 [(17, 1), (25, 0x80)]) (stage (link .roleIn .locked) (map true) Channel.reset),
      by decide +kernel⟩, fun kind hk => ?_⟩
  refine ⟨_, _, taking_taking (command (kind.setWidth 8) []) (stage (link .roleIn .locked) (map true) Channel.reset), ?_⟩
  fin_cases hk <;> decide +kernel

theorem witness_SlotMapListTransfersBegin :
    (∃ (s : State) (r : List Byte), s.Taking r ∧ byteAt r 0 = 5 ∧ (byteAt r 16).toNat = (0 : LinkId).val
      ∧ ReservedZero r [0, 4, 5, 6, 7, 16, 18, 19, 24, 25, 26, 27, 28, 29, 30, 31]
      ∧ (u16At r 18).toNat = 1 ∧ (u64At r 24).toNat % 4 = 0 ∧ (s.map 0).swapPending = false
      ∧ s.PicksNone (u64At r 24).toNat ((u16At r 18).toNat * 4) .read)
    ∧ (∃ (s : State) (r : List Byte), s.Taking r ∧ byteAt r 0 = 5 ∧ (byteAt r 16).toNat = (0 : LinkId).val
      ∧ ReservedZero r [0, 4, 5, 6, 7, 16, 18, 19, 24, 25, 26, 27, 28, 29, 30, 31]
      ∧ (u16At r 18).toNat = 128 ∧ (u64At r 24).toNat % 4 = 0 ∧ (s.map 0).swapPending = false
      ∧ s.Picks (u64At r 24).toNat ((u16At r 18).toNat * 4) .read 1)
    ∧ (∃ (s : State) (r : List Byte), s.Taking r ∧ byteAt r 0 = 7 ∧ (byteAt r 16).toNat = (0 : LinkId).val
      ∧ ReservedZero r [0, 4, 5, 6, 7, 16, 17, 24, 25, 26, 27, 28, 29, 30, 31]
      ∧ (byteAt r 17).toNat ≤ 1 ∧ (u64At r 24).toNat % 4 = 0 ∧ (s.map 0).swapPending = false
      ∧ s.PicksNone (u64At r 24).toNat 512 .write)
    ∧ ∃ (s : State) (r : List Byte), s.Taking r ∧ byteAt r 0 = 7 ∧ (byteAt r 16).toNat = (0 : LinkId).val
      ∧ ReservedZero r [0, 4, 5, 6, 7, 16, 17, 24, 25, 26, 27, 28, 29, 30, 31]
      ∧ (byteAt r 17).toNat ≤ 1 ∧ (u64At r 24).toNat % 4 = 0 ∧ (s.map 0).swapPending = false
      ∧ s.Picks (u64At r 24).toNat 512 .write 1 := by
  refine ⟨⟨_, _, taking_taking (command 5 [(18, 1), (24, 0xFC), (25, 0x8F), (26, 1)])
      (stage (link .roleIn .off) (map false) Channel.reset), by decide +kernel⟩,
    ⟨_, _, taking_taking (command 5 [(18, 128), (25, 0x8E)]) (stage (link .roleIn .off) (map false) Channel.reset),
      by decide +kernel⟩,
    ⟨_, _, taking_taking (command 7 [(17, 1), (24, 4), (25, 0x8E)]) (stage (link .roleIn .off) (map false) Channel.reset),
      by decide +kernel⟩,
    ⟨_, _, taking_taking (command 7 [(25, 0x8E)]) (stage (link .roleIn .off) (map false) Channel.reset),
      by decide +kernel⟩⟩

theorem witness_CopyAndSwapSlotMapOutcomes :
    (∃ (s : State) (r : List Byte), s.Taking r ∧ byteAt r 0 = 6 ∧ (byteAt r 16).toNat = (0 : LinkId).val ∧ ReservedZero r [0, 4, 5, 6, 7, 16]
      ∧ (s.map 0).swapPending = false)
    ∧ (∃ (s : State) (r : List Byte), s.Taking r ∧ byteAt r 0 = 8 ∧ (byteAt r 16).toNat = (7 : LinkId).val ∧ ReservedZero r [0, 4, 5, 6, 7, 16]
      ∧ (s.map 7).swapPending = false ∧ (s.link 7).config = none)
    ∧ (∃ (s : State) (r : List Byte) (cfg : LinkConfig) (f : MapFailure), s.Taking r ∧ byteAt r 0 = 8 ∧ (byteAt r 16).toNat = (0 : LinkId).val ∧ ReservedZero r [0, 4, 5, 6, 7, 16]
      ∧ (s.map 0).swapPending = false ∧ (s.link 0).config = some cfg ∧ s.mapFailure 0 cfg = some f)
    ∧ ∀ st ∈ [LinkState.off, .locked], ∃ (s : State) (r : List Byte) (cfg : LinkConfig), s.Taking r ∧ byteAt r 0 = 8 ∧ (byteAt r 16).toNat = (0 : LinkId).val
      ∧ ReservedZero r [0, 4, 5, 6, 7, 16] ∧ (s.map 0).swapPending = false ∧ (s.link 0).config = some cfg
      ∧ s.mapFailure 0 cfg = none ∧ (s.link 0).state = st := by
  refine ⟨⟨_, _, taking_taking (command 6 []) State.reset, by decide +kernel⟩,
    ⟨_, _, taking_taking (command 8 [(16, 7)]) State.reset, by decide +kernel⟩,
    ⟨_, _, { slots := 4, width := 8, role := .roleIn, idleMode := .drive, idleValue := 0x12AB },
      { slot := 0, reason := .channelNotOpen, dir := .rx, chan := 0 },
      taking_taking (command 8 []) (stage (link .roleIn .locked) { map false with standby := bank } Channel.reset),
      by decide +kernel⟩, fun st hst => ?_⟩
  refine ⟨_, _, { slots := 4, width := 8, role := .roleIn, idleMode := .drive, idleValue := 0x12AB },
    taking_taking (command 8 []) (stage (link .roleIn st) (map false) Channel.reset), ?_⟩
  fin_cases hst <;> decide +kernel

theorem witness_ListPiecesCutAtBlocks :
    ∀ base ∈ [0, 60], ∀ length ∈ [1, 512], 1 ≤ length ∧ length ≤ 512 ∧ base % 4 = 0 := by decide

/-- A bank that assigns both lanes of a transmit channel, at the first and the last slot, is valid. -/
theorem witness_ValidBankNamesEachLaneOnce :
    let cfg : LinkConfig := { slots := 4, width := 8, role := .roleIn, idleMode := .drive, idleValue := 0 }
    let tx : Bank := (Bank.unassigned.set 0 { rx := none, tx := some { chan := 0, lane := 0 } }).set 3
      { rx := none, tx := some { chan := 0, lane := 1 } }
    let s := stage (link .roleIn .off) { SlotMap.reset with standby := tx } (empty .tx .planar .starved)
    s.mapFailure 0 cfg = none ∧ ((s.map 0).standby.lanesOf .tx 0).map (fun x => x.2.val) = List.range 2 := by decide +kernel

theorem witness_MapInvalidNamesFirstFailure :
    (let cfg : LinkConfig := { slots := 4, width := 16, role := .roleIn, idleMode := .drive, idleValue := 0 }
    (stage (link .roleIn .off) { SlotMap.reset with standby := bank } (empty .tx .planar .starved)).mapFailure 0 cfg
      = some { slot := 0, reason := .direction, dir := .rx, chan := 0 })
    ∧ (∀ x ∈ [(1, 1), (0, 2)], LanesFailAt [(3, x.1)] x.2 3)
    ∧ ¬ LanesFailAt [(3, 0), (7, 1)] 2 3 ∧ (4 : Nat) ≤ (4 : SlotId).val ∧ (3 : SlotId).val < 4
    ∧ ∀ st ∈ [ChanState.closing, .closed], ¬ (st = .starved ∨ st = .active ∨ st = .halted) := by
  refine ⟨by decide +kernel, fun x hx => ⟨0, x.1, rfl, fun j _ hj => by omega, ?_⟩, ?_, by decide, by decide, by decide⟩
  · revert x; decide
  · rintro ⟨i, lane, hi, -, h⟩
    match i, hi with
    | 0, hi =>
      obtain ⟨-, rfl⟩ : (3 : SlotId) = 3 ∧ (0 : Fin 8) = lane := by simpa using hi
      revert h; decide
    | 1, hi => simp at hi
    | n + 2, hi => simp at hi

/-! ### Channel commands -/

/-- The fields of a channel that Settled speaks of, tested. -/
def settledCheck (ch : Channel) : Bool :=
  ch.requests.all (fun q => !q.over)
    && ch.list.all (fun r => !ch.finished r && r.ended.all fun p => !r.passDone ch.cfg.dir p)
    && (ch.list.head?.all fun r => !r.gone) && ch.consumed == consumedIndex ch.list ch.fetch

theorem settled_of_check (ch : Channel) (h : settledCheck ch = true) : ch.Settled := by
  simp only [settledCheck, Bool.and_eq_true, List.all_eq_true, Bool.not_eq_true', beq_iff_eq, Option.all_eq_true] at h
  exact ⟨h.1.1.1, fun r hr => (h.1.1.2 r hr).1, fun r hr => (h.1.1.2 r hr).2, fun r hr => by simpa using h.1.2 r hr, h.2⟩

/-- A part whose banks are those of reset names no channel. -/
theorem unnamed_of_maps (s : State) (h : s.maps = State.reset.maps) (c : ChanId) : ¬ s.Named c := by
  have names : Bank.unassigned.names c = false := by
    simp [Bank.names, Bank.unassigned, MapEntry.unassigned, Half.names]
  rintro ⟨l, hl⟩
  have e : s.map l = SlotMap.reset := by simp [State.map, h, State.reset]
  simp [e, SlotMap.reset, names] at hl

/-- OPEN_CHANNEL of channel 63: TX, 16 bits, 3 lanes, PLANAR, URGENT, threshold 8, a ring at 0x4000. -/
def openRecord (sizeLow sizeHigh : Byte) : List Byte :=
  command 9 [(16, 63), (17, 1), (18, 16), (19, 3), (20, 1), (21, 1), (22, 8), (24, sizeLow), (25, sizeHigh), (26, 0xCD), (33, 0x40)]

/-- The parameter checks of R45 hold of it, the ring size apart. -/
theorem openRecord_good : ∀ x ∈ [(8#8, 0#8), (0#8, 4#8)], let r := openRecord x.1 x.2
    ReservedZero r [0, 4, 5, 6, 7, 16, 17, 18, 19, 20, 21, 22, 24, 25, 26, 27, 32, 33, 34, 35, 36, 37, 38, 39]
      ∧ (byteAt r 17).toNat ≤ 1 ∧ (byteAt r 18 = 8 ∨ byteAt r 18 = 16) ∧ (1 ≤ (byteAt r 19).toNat ∧ (byteAt r 19).toNat ≤ 8)
      ∧ (byteAt r 20).toNat ≤ 1 ∧ (byteAt r 21).toNat ≤ 1 ∧ (byteAt r 22).toNat ∈ [1, 2, 4, 8]
      ∧ (byteAt r 22).toNat * (byteAt r 19).toNat ≤ 24 ∧ (u64At r 32).toNat % 16 = 0 := by
  intro x hx
  fin_cases hx <;> refine ⟨by decide +kernel, ?_⟩ <;> decide +kernel

/-- Windows 0 and 1 open, and banks that name no channel. -/
def unmapped (ch : Channel) : State :=
  running (((State.reset.setChan 0 ch).setWindow 0 (openWindow 0x4000 0x4FFF 1)).setWindow 1 (openWindow 0x8000 0x8FFF 1))

theorem witness_OpenChannelChecksAndMakesReady :
    (∃ (s : State) (r : List Byte), s.Taking r ∧ byteAt r 0 = 9 ∧ 64 ≤ (byteAt r 16).toNat)
    ∧ (∃ (s : State) (r : List Byte), s.Taking r ∧ byteAt r 0 = 9 ∧ (byteAt r 16).toNat = (63 : ChanId).val
      ∧ ¬ ReservedZero r [0, 4, 5, 6, 7, 16, 17, 18, 19, 20, 21, 22, 24, 25, 26, 27, 32, 33, 34, 35, 36, 37, 38, 39])
    ∧ (∀ st ∈ [ChanState.closing, .starved, .active, .halted, .closed], ∃ (s : State) (r : List Byte), s.Taking r
      ∧ byteAt r 0 = 9 ∧ (byteAt r 16).toNat = (0 : ChanId).val
      ∧ ReservedZero r [0, 4, 5, 6, 7, 16, 17, 18, 19, 20, 21, 22, 24, 25, 26, 27, 32, 33, 34, 35, 36, 37, 38, 39]
      ∧ (s.chan 0).state = st ∧ ¬ (byteAt r 18 = 8 ∨ byteAt r 18 = 16))
    ∧ (∃ (s : State) (r : List Byte), s.Taking r ∧ byteAt r 0 = 9 ∧ (byteAt r 16).toNat = (63 : ChanId).val
      ∧ (s.chan 63).state = .closed ∧ (u16At r 24).toNat = 2 ^ 3 ∧ s.Named 63)
    ∧ (∃ (s : State) (r : List Byte), s.Taking r ∧ ¬ s.Named 63 ∧ byteAt r 0 = 9 ∧ (byteAt r 16).toNat = (63 : ChanId).val
      ∧ (s.chan 63).state = .closed ∧ (u16At r 24).toNat = 2 ^ 10
      ∧ s.PicksNone (u64At r 32).toNat ((u16At r 24).toNat * 16) .read)
    ∧ ∃ (s : State) (r : List Byte), s.Taking r ∧ ¬ s.Named 63 ∧ byteAt r 0 = 9 ∧ (byteAt r 16).toNat = (63 : ChanId).val
      ∧ (s.chan 63).state = .closed ∧ (u16At r 24).toNat = 2 ^ 3
      ∧ s.Picks (u64At r 32).toNat ((u16At r 24).toNat * 16) .read 0 := by
  refine ⟨⟨_, _, taking_taking (command 9 [(16, 64)]) State.reset, by decide +kernel⟩,
    ⟨_, _, taking_taking (command 9 [(16, 63), (23, 1)]) State.reset, by decide +kernel⟩, fun st hst => ?_,
    ⟨_, _, taking_taking (openRecord 8 0) (State.reset.setMap 7 { SlotMap.reset with
        active := Bank.unassigned.set 127 { rx := none, tx := some { chan := 63, lane := 7 } } }), by decide +kernel,
      by decide +kernel, by decide +kernel, by decide +kernel, 7, .inl (by decide +kernel)⟩,
    ⟨_, _, taking_taking (openRecord 0 4) (unmapped Channel.reset), unnamed_of_maps _ rfl _, by decide +kernel⟩,
    ⟨_, _, taking_taking (openRecord 8 0) (unmapped Channel.reset), unnamed_of_maps _ rfl _, by decide +kernel⟩⟩
  refine ⟨_, _, taking_taking (command 9 []) (unmapped (empty .rx .planar st)), ?_⟩
  fin_cases hst <;> decide +kernel

theorem witness_CloseChannelRefusedInOrder :
    (∃ (s : State) (r : List Byte), s.Taking r ∧ byteAt r 0 = 0xA ∧ 64 ≤ (byteAt r 16).toNat)
    ∧ (∃ (s : State) (r : List Byte), s.Taking r ∧ byteAt r 0 = 0xA ∧ (byteAt r 16).toNat = (0 : ChanId).val
      ∧ ¬ (byteAt r 17).toNat ≤ 1)
    ∧ (∀ st ∈ [ChanState.closed, .closing], ∃ (s : State) (r : List Byte), s.Taking r ∧ byteAt r 0 = 0xA
      ∧ (byteAt r 16).toNat = (0 : ChanId).val ∧ ReservedZero r [0, 4, 5, 6, 7, 16, 17] ∧ (byteAt r 17).toNat ≤ 1
      ∧ (s.chan 0).state = st)
    ∧ ∃ (s : State) (r : List Byte), s.Taking r ∧ byteAt r 0 = 0xA ∧ (byteAt r 16).toNat = (0 : ChanId).val
      ∧ ReservedZero r [0, 4, 5, 6, 7, 16, 17] ∧ byteAt r 17 = 0 ∧ (s.chan 0).isOpen = true ∧ s.Named 0 := by
  refine ⟨⟨_, _, taking_taking (command 0xA [(16, 64)]) State.reset, by decide +kernel⟩,
    ⟨_, _, taking_taking (command 0xA [(17, 2)]) State.reset, by decide +kernel⟩, fun st hst => ?_,
    ⟨_, _, taking_taking (command 0xA []) (stage (link .roleIn .off) (map false) (empty .rx .planar .halted)),
      by decide +kernel, by decide +kernel, by decide +kernel, by decide +kernel, by decide +kernel,
      0, .inl (by decide +kernel)⟩⟩
  refine ⟨_, _, taking_taking (command 0xA [(17, 1)]) (unmapped (empty .rx .planar st)), ?_⟩
  fin_cases hst <;> decide +kernel

theorem witness_CloseChannelTaken :
    (∃ (s : State) (r : List Byte), s.Taking r ∧ ¬ s.Named 0 ∧ byteAt r 0 = 0xA ∧ (byteAt r 16).toNat = (0 : ChanId).val
      ∧ ReservedZero r [0, 4, 5, 6, 7, 16, 17] ∧ (s.chan 0).isOpen = true ∧ byteAt r 17 = 0
      ∧ (s.chan 0).requests = [] ∧ (s.chan 0).cfg.dir = .tx ∧ (∀ x ∈ (s.chan 0).list, x.untouched = false)
      ∧ ∃ x ∈ (s.chan 0).list, x.state = .draining ∧ x.finalStatus = .done)
    ∧ ∃ (s : State) (r : List Byte), s.Taking r ∧ byteAt r 0 = 0xA ∧ (byteAt r 16).toNat = (0 : ChanId).val
      ∧ ReservedZero r [0, 4, 5, 6, 7, 16, 17] ∧ (s.chan 0).isOpen = true ∧ byteAt r 17 = 1
      ∧ (s.chan 0).requests = [request 1 1 0] ∧ (s.chan 0).cfg.dir = .rx ∧ (s.chan 0).current?.isSome
      ∧ ((s.chan 0).list.filter BufferRecord.untouched).head? = some { record .next (pass 0 0) with ring := 1 } := by
  refine ⟨⟨_, _, taking_taking (command 0xA []) (unmapped (holding .tx .planar .starved (record .draining (pass 8 0)))),
      unnamed_of_maps _ rfl _, by decide +kernel⟩,
    ⟨_, _, taking_taking (command 0xA [(17, 1)]) (stage (link .roleIn .off) (map false)
      { holding .rx .interleaved .active (record .current (pass 2 0)) with
        requests := [request 1 1 0], list := [record .current (pass 2 0), { record .next (pass 0 0) with ring := 1 }] }),
      by decide +kernel⟩⟩

/-- A CLOSING channel with nothing left. -/
def closed : Channel := { empty .rx .interleaved .closing with closeRec := some { mode := .abort, tag := 8 } }

theorem witness_CloseEndReportsFinalCounters :
    (∀ waits ∈ [false, true], let u := unmapped closed;
      let s : State := if waits then { u with cmd := { u.cmd with state := .waitSpace, inHand := some (command 1 []) } } else u;
      s.device.state = .running ∧ (s.chan 0).ringWindow = some 0 ∧ (s.chan 0).state = .closing
        ∧ (s.chan 0).closeRec = some { mode := .abort, tag := 8 } ∧ (s.chan 0).requests = []
        ∧ (s.chan 0).descRead = .none ∧ (s.chan 0).groups = [] ∧ (s.chan 0).list = []
        ∧ (s.cmd.state = .waitSpace ↔ waits = true) ∧ s.Grantable)
    ∧ (let s := unmapped { closed with descRead := .absorbed };
      s.device.state = .running ∧ (s.chan 0).ringWindow = some 0 ∧ (s.chan 0).descRead ≠ .none)
    ∧ ∀ mode ∈ [0#8, 1#8], ∃ (s : State) (r : List Byte), s.Taking r ∧ ¬ s.Named 0 ∧ byteAt r 0 = 0xA
      ∧ (byteAt r 16).toNat = (0 : ChanId).val ∧ ReservedZero r [0, 4, 5, 6, 7, 16, 17] ∧ (s.chan 0).ringWindow = some 0
      ∧ (s.chan 0).isOpen = true ∧ byteAt r 17 = mode ∧ (s.chan 0).requests = []
      ∧ (s.chan 0).descRead = .none ∧ (s.chan 0).groups = [] ∧ (s.chan 0).list = [] := by
  refine ⟨fun w hw => ?_, by decide +kernel, fun mode hm => ?_⟩
  · fin_cases hw <;>
      exact ⟨rfl, rfl, rfl, rfl, rfl, rfl, rfl, rfl, by decide, grantable _ (by refine ⟨?_, ?_, ?_, ?_⟩ <;> decide +kernel)⟩
  refine ⟨_, _, taking_taking (command 0xA [(17, mode)]) (unmapped (empty .tx .planar .halted)), unnamed_of_maps _ rfl _, ?_⟩
  fin_cases hm <;> decide +kernel

theorem witness_ResumeChannelLeavesHalt :
    (∃ (s : State) (r : List Byte), s.Taking r ∧ byteAt r 0 = 0xB ∧ 64 ≤ (byteAt r 16).toNat)
    ∧ (∃ (s : State) (r : List Byte), s.Taking r ∧ byteAt r 0 = 0xB ∧ (byteAt r 16).toNat = (0 : ChanId).val
      ∧ ¬ ReservedZero r [0, 4, 5, 6, 7, 16])
    ∧ (∃ (s : State) (r : List Byte), s.Taking r ∧ byteAt r 0 = 0xB ∧ (byteAt r 16).toNat = (0 : ChanId).val
      ∧ ReservedZero r [0, 4, 5, 6, 7, 16] ∧ (s.chan 0).state ≠ .halted)
    ∧ ∃ (s : State) (r : List Byte), s.Taking r ∧ (s.chan 0).Settled ∧ byteAt r 0 = 0xB
      ∧ (byteAt r 16).toNat = (0 : ChanId).val ∧ ReservedZero r [0, 4, 5, 6, 7, 16] ∧ (s.chan 0).state = .halted := by
  refine ⟨⟨_, _, taking_taking (command 0xB [(16, 64)]) State.reset, by decide +kernel⟩,
    ⟨_, _, taking_taking (command 0xB [(8, 1)]) State.reset, by decide +kernel⟩,
    ⟨_, _, taking_taking (command 0xB []) State.reset, by decide +kernel⟩,
    ⟨_, _, taking_taking (command 0xB []) (unmapped
        { empty .rx .planar .halted with haltCause := some .busError }),
      settled_of_check _ (by decide +kernel), by decide +kernel⟩⟩

theorem witness_QueryChannelReportsAndChangesNothing :
    (∃ (s : State) (r : List Byte), s.Taking r ∧ byteAt r 0 = 0xC ∧ 64 ≤ (byteAt r 16).toNat)
    ∧ (∃ (s : State) (r : List Byte), s.Taking r ∧ byteAt r 0 = 0xC ∧ (byteAt r 16).toNat = (0 : ChanId).val
      ∧ ¬ ReservedZero r [0, 4, 5, 6, 7, 16])
    ∧ ∀ st ∈ [ChanState.closed, .starved, .active, .halted, .closing], ∃ (s : State) (r : List Byte), s.Taking r
      ∧ byteAt r 0 = 0xC ∧ (byteAt r 16).toNat = (0 : ChanId).val ∧ ReservedZero r [0, 4, 5, 6, 7, 16]
      ∧ (s.chan 0).state = st ∧ (s.chan 0).cfg.lanes ≤ 8 ∧ (s.chan 0).groups.length ≤ 32 ∧ (s.chan 0).list.length ≤ 3 := by
  refine ⟨⟨_, _, taking_taking (command 0xC [(16, 64)]) State.reset, by decide +kernel⟩,
    ⟨_, _, taking_taking (command 0xC [(8, 1)]) State.reset, by decide +kernel⟩, fun st hst => ?_⟩
  refine ⟨_, _, taking_taking (command 0xC []) (unmapped (empty .rx .planar st)), ?_⟩
  fin_cases hst <;> decide +kernel

/-! ### Windows, coalescing, NOP and the unknown kind -/

/-- SET_WINDOW of window 1: the enable byte, and a limit of 0x0FFF or another. -/
def windowRecord (enable limitLow : Byte) : List Byte := command 0xD [(16, 1), (17, enable), (18, 3), (32, limitLow), (33, 0x0F)]

theorem witness_SetWindowInOrder :
    (∃ (s : State) (r : List Byte), s.Taking r ∧ byteAt r 0 = 0xD ∧ 8 ≤ (byteAt r 16).toNat)
    ∧ (∃ (s : State) (r : List Byte), s.Taking r ∧ byteAt r 0 = 0xD ∧ (byteAt r 16).toNat = (1 : WinId).val
      ∧ ¬ (byteAt r 17).toNat < 2)
    ∧ ∀ x ∈ [(1#8, 0xFF#8, 1), (1#8, 0xFE#8, 0), (1#8, 0xFF#8, 0), (0#8, 0xFF#8, 0)], ∃ (s : State) (r : List Byte), s.Taking r
      ∧ byteAt r 0 = 0xD ∧ (byteAt r 16).toNat = (1 : WinId).val
      ∧ ReservedZero r [0, 4, 5, 6, 7, 16, 17, 18, 24, 25, 26, 27, 28, 29, 30, 31, 32, 33, 34, 35, 36, 37, 38, 39]
      ∧ (byteAt r 17).toNat < 2 ∧ (byteAt r 18).toNat < 4 ∧ (s.window 1).use = x.2.2 ∧ byteAt r 17 = x.1
      ∧ (u64At r 24).toNat % 4096 = 0 ∧ ((u64At r 32).toNat % 4096 = 4095 ↔ x.2.1 = 0xFF)
      ∧ (u64At r 24).toNat ≤ (u64At r 32).toNat := by
  refine ⟨⟨_, _, taking_taking (command 0xD [(16, 8)]) State.reset, by decide +kernel⟩,
    ⟨_, _, taking_taking (command 0xD [(16, 1), (17, 2)]) State.reset, by decide +kernel⟩, fun x hx => ?_⟩
  refine ⟨_, _, taking_taking (windowRecord x.1 x.2.1) (State.reset.setWindow 1 (openWindow 0x8000 0x8FFF x.2.2)), ?_⟩
  fin_cases hx <;> decide +kernel

theorem witness_SetCoalescingStoresAndMayFire :
    (∃ (s : State) (r : List Byte), s.Taking r ∧ byteAt r 0 = 0xE ∧ ¬ (1 ≤ (u16At r 16).toNat ∧ (u16At r 16).toNat ≤ 255))
    ∧ (∃ (s : State) (r : List Byte), s.Taking r ∧ byteAt r 0 = 0xE ∧ (u16At r 16).toNat = 255
      ∧ ReservedZero r [0, 4, 5, 6, 7, 16, 17, 18, 19] ∧ s.coal.counter = 0)
    ∧ (∃ (s : State) (r : List Byte), s.Taking r ∧ byteAt r 0 = 0xE ∧ (u16At r 16).toNat = 1
      ∧ ReservedZero r [0, 4, 5, 6, 7, 16, 17, 18, 19] ∧ (u16At r 16).toNat ≤ s.coal.counter)
    ∧ ∃ (s : State) (r : List Byte), s.Taking r ∧ byteAt r 0 = 0xE ∧ (u16At r 16).toNat = 9
      ∧ ReservedZero r [0, 4, 5, 6, 7, 16, 17, 18, 19] ∧ s.coal.counter = 1 ∧ (u16At r 18).toNat = 5
      ∧ s.coal.timer = some 5 := by
  refine ⟨⟨_, _, taking_taking (command 0xE [(17, 1)]) State.reset, by decide +kernel⟩,
    ⟨_, _, taking_taking (command 0xE [(16, 255)]) State.reset, by decide +kernel⟩,
    ⟨_, _, taking_taking (command 0xE [(16, 1)])
      { State.reset with coal := { count := 2, time := 0, counter := 1, timer := some 0 } }, by decide +kernel⟩,
    ⟨_, _, taking_taking (command 0xE [(16, 9), (18, 5)])
      { State.reset with coal := { count := 2, time := 0, counter := 1, timer := some 5 } }, by decide +kernel⟩⟩

theorem witness_NopAndUnknownComplete :
    (∃ (s : State) (r : List Byte), s.Taking r ∧ byteAt r 0 = 1 ∧ ReservedZero r [0, 4, 5, 6, 7])
    ∧ (∃ (s : State) (r : List Byte), s.Taking r ∧ byteAt r 0 = 1 ∧ ¬ ReservedZero r [0, 4, 5, 6, 7])
    ∧ (∃ (s : State) (r : List Byte), s.Taking r ∧ byteAt r 0 = 0)
    ∧ ∃ (s : State) (r : List Byte), s.Taking r ∧ (byteAt r 0).toNat = 0x0F :=
  ⟨⟨_, _, taking_taking (command 1 []) State.reset, by decide +kernel⟩,
    ⟨_, _, taking_taking (command 1 [(63, 1)]) State.reset, by decide +kernel⟩,
    ⟨_, _, taking_taking (command 0 []) State.reset, by decide +kernel⟩,
    ⟨_, _, taking_taking (command 0x0F []) State.reset, by decide +kernel⟩⟩

/-! ### The register window, faults and resets -/

theorem witness_RegisterWindow :
    State.reset.device.resetLow = false ∧ (0x0103 : U32).toNat % 256 ≠ 1 ∧ (0x0103 : U32).toNat % 256 ≠ 2
      ∧ (∀ offset ∈ [0x28#6, 0x3F#6], 0x28 ≤ offset.toNat) ∧ (1#6).toNat % 4 ≠ 0 ∧ (0x3C#6).toNat % 4 = 0 := by decide

theorem witness_QueueIndexPosts :
    (State.reset.device.resetLow = false ∧ State.reset.cmd.queue = none ∧ State.reset.writer.queue = none)
    ∧ (let s := running State.reset;
      s.device.resetLow = false ∧ s.device.state = .running ∧ s.cmd.queue = some { base := 0x1000, size := 16 }
        ∧ s.cmd.state = .idle ∧ s.cmd.head ≠ 20 ∧ (20 - s.cmd.head).toNat = 16
        ∧ (s.cmd.tail - s.cmd.head).toNat ≤ (20 - s.cmd.head).toNat ∧ ¬ (21 - s.cmd.head).toNat ≤ 16
        ∧ s.writer.queue = some { base := 0x2000, size := 32 }
        ∧ (0 - s.writer.hostHead).toNat ≤ (s.writer.writeIndex - s.writer.hostHead).toNat
        ∧ ¬ (1 - s.writer.hostHead).toNat ≤ (s.writer.writeIndex - s.writer.hostHead).toNat)
    ∧ (let s : State := { running State.reset with device := { Device.reset with state := .faulted } };
      s.device.state = .faulted ∧ s.device.state ≠ .running ∧ s.cmd.queue.isSome ∧ s.writer.queue.isSome)
    ∧ (let s := taking (command 1 []) State.reset;
      s.cmd.state ≠ .idle ∧ (5 - s.cmd.head).toNat ≤ 16) := by decide +kernel

theorem witness_ChannelPostsAndRejections :
    (let s := withChan (empty .rx .interleaved .closing);
      s.device.resetLow = false ∧ (0 : ChanId).val = (0x00000008 : U32).toNat / 2 ^ 16 % 64 ∧ (s.chan 0).state = .closing
        ∧ (63 : ChanId).val = (0xFFFF0001 : U32).toNat / 2 ^ 16 % 64 ∧ (s.chan 63).state = .closed)
    ∧ (let ch := empty .rx .interleaved .starved;
      ch.isOpen = true ∧ ((8 : U16) - ch.consumed).toNat = ch.cfg.ringSize ∧ ((8 : U16) - ch.producer).toNat ≤ ch.cfg.ringSize
        ∧ ¬ ((9 : U16) - ch.consumed).toNat ≤ ch.cfg.ringSize)
    ∧ (withChan (empty .rx .interleaved .starved)).device.state ≠ .resetting
    ∧ (empty .rx .interleaved .starved).Settled
    ∧ (holding .rx .interleaved .active (record .current (pass 7 0))).current?.all (fun r => decide (r.pass.issued < r.frames))
    ∧ ({ running State.reset with device := { Device.reset with state := .resetting } } : State).device.state = .resetting
    ∧ State.reset.writer.devEvent = none
    ∧ (DeviceEvent.mk .post true false false (some 0) 9 .range 65535).merged ≤ 65535 := by
  refine ⟨by decide +kernel, by decide +kernel, by decide +kernel, settled_of_check _ (by decide +kernel), by decide +kernel,
    rfl, rfl, by decide⟩

theorem goodConfig_valid : ConfigValid goodConfig :=
  ⟨by decide +kernel, by decide +kernel, by decide +kernel, by decide +kernel, by decide +kernel, by decide +kernel,
    by decide +kernel, by decide +kernel, by decide +kernel⟩

theorem witness_EnableAndConfigLoad :
    State.reset.device.resetLow = false ∧ State.reset.device.state = .off ∧ loading.device.state = .loading
      ∧ loading.device.state ≠ .off ∧ loading.port.entry 0 = some (transaction .configRead 4 none 32 .plain)
      ∧ goodConfig.length = 32 ∧ ConfigValid goodConfig ∧ (bytes 32 []).length = 32 ∧ ¬ ConfigValid (bytes 32 []) :=
  ⟨rfl, rfl, rfl, by decide, by decide +kernel, by decide, goodConfig_valid, by decide, fun h => by
    have := h.count; revert this; decide⟩

theorem witness_DeviceFaultTaken :
    (State.reset.device.state ≠ .loading ∧ State.reset.device.state ≠ .running)
    ∧ (running State.reset).device.state = .running ∧ (running State.reset).transfer = none
    ∧ loading.device.state = .loading
    ∧ (transferring .readList .listRead).device.state = .running
    ∧ (transferring .readList .listRead).transfer = some (oneEntry .readList) := by decide +kernel

theorem witness_ResetActionTaken :
    State.reset.device.resetLow = false ∧ State.reset.device.state ≠ .resetting ∧ State.reset.port.Empty
      ∧ loading.device.state ≠ .resetting ∧ ¬ loading.port.Empty
      ∧ ({ State.reset with device := { Device.reset with state := .resetting } } : State).device.state = .resetting := by
  decide +kernel

/-- RESETTING with one or two transactions outstanding. -/
def resetting (two : Bool) : State :=
  let s := issued (transaction .rxWrite 2 (some 0) 4 (.data 0 0)) State.reset
  { s with
    device := { Device.reset with state := .resetting }
    port := if two then { s.port with table := s.port.table.set 15 (some (transaction .cmdRead 4 none 64 (.head 0))) } else s.port }

theorem witness_ResponsesDiscarded :
    (∀ two ∈ [false, true], let s := resetting two; let t := transaction .rxWrite 2 (some 0) 4 (.data 0 0);
      s.device.state = .resetting ∧ s.port.entry 0 = some t
        ∧ responseOf (.descReadResponse 0 .error) = some (0, .error) ∧ ((s.port.freed 0 t).Empty ↔ two = false))
    ∧ (∃ s : State, s.device.state = .resetting ∧ s.port.Empty) ∧ (∃ s : State, ¬ (s.device.state = .resetting ∧ s.port.Empty))
    ∧ responseOf (.descReadResponse 15 .error) = some (15, .error) ∧ State.reset.port.entry 15 = none
    ∧ responseOf (.rxWriteResponse 0 .okay) = responseOf (.cmdReadResponse 0 (.okay []))
    ∧ ∀ n ∈ [3, 4, 5], let s := issued (transaction .txRead 2 (some 0) 4 (.data 0 0)) (running State.reset);
      s.port.entry 0 = some (transaction .txRead 2 (some 0) 4 (.data 0 0)) ∧ s.device.state ≠ .resetting
        ∧ (bytes n []).length = n := by
  refine ⟨by decide +kernel, ⟨{ State.reset with device := { Device.reset with state := .resetting } }, by decide +kernel⟩,
    ⟨State.reset, by decide +kernel⟩, rfl, by decide +kernel, rfl, by decide +kernel⟩

theorem witness_PowerOnResetClearsAll :
    ({ State.reset with device := { Device.reset with resetLow := true } } : State).device.resetLow = true
      ∧ isRegisterWrite (.enable 0) = true := by decide

/-! ### Link events, notices and slot events -/

theorem witness_FrameStartsAndPendingSwaps :
    (let s := stage (link .roleIn .hunting) (map false) Channel.reset;
      s.device.state = .running ∧ (s.link 0).config.map LinkConfig.role = some .roleIn ∧ (s.link 0).state = .hunting)
    ∧ ∀ role ∈ [SyncRole.roleIn, .roleOut], ∀ pending ∈ [false, true], ∀ missed ∈ [0, 1], ∀ waits ∈ [false, true],
      let u := stage (atEnd { link role .locked with missed := missed }) (map pending) Channel.reset;
      let s : State := if waits then { waiting (command 1 []) with links := u.links, maps := u.maps } else u;
      let done := (s.setLink 0 { s.link 0 with frame := 8 }).exchanged 0 9 2;
      s.device.state = .running ∧ (s.link 0).config.map LinkConfig.role = some role ∧ (s.link 0).state = .locked
        ∧ (s.link 0).config.map (fun c => c.slots * c.width - 1) = (s.link 0).bitPos
        ∧ (s.link 0).config.map LinkConfig.slots = some (s.link 0).completed ∧ (s.link 0).missed = missed ∧ (s.map 0).swapPending = pending ∧ (pending = true → (s.map 0).swapTag = some 9)
        ∧ (done.cmd.state = .waitSpace ↔ waits = true) ∧ done.writer.list.length + done.writer.reservations < 32
        ∧ done.writer.reservations < 24 ∧ done.writer.devEvent = none ∧ ∀ l, (done.link l).event = none := by
  decide +kernel

theorem witness_LossAndSlipBreakFrames :
    ∀ pending ∈ [false, true], ∀ cut ∈ [false, true],
      let l := { link .roleIn .locked with missed := 1 };
      let s := stage (if cut then atSlot 0 true l else atEnd l) (map pending) (empty .rx .planar .starved);
      s.device.state = .running ∧ (s.link 0).config.map LinkConfig.role = some .roleIn ∧ (s.link 0).state = .locked
        ∧ (s.link 0).missed = 1 ∧ 0 < (s.link 0).launched ∧ (s.map 0).swapPending = pending
        ∧ ((s.link 0).config.map (fun c => c.slots * c.width - 1) = (s.link 0).bitPos ↔ cut = false)
        ∧ ((s.link 0).config.map LinkConfig.slots = some (s.link 0).completed ↔ cut = false)
        ∧ (pending = true → (s.map 0).swapTag = some 9) := by
  decide +kernel

/-- A link in the slot launched last, at bit position `p` of a frame of 4 slots of 8 bits. -/
def inSlot (p completed : Nat) (l : Link) : Link := { l with bitPos := some p, launched := p / 8 + 1, completed := completed }

theorem witness_BitClockMovesTheLink :
    (∀ st ∈ [LinkState.off, .hunting], ∀ low ∈ [false, true],
      let s := stage { link .roleIn st with fsyLow := low } (map false) (empty .tx .planar .starved);
      s.device.resetLow = false ∧ (s.link 0).state = st ∧ (s.link 0).fsyLow = low
        ∧ (s.link 0).config.map LinkConfig.role = some .roleIn)
    ∧ (let s := stage (link .roleOut .locked) (map false) (empty .tx .planar .starved);
      (s.link 0).state = .locked ∧ (s.link 0).bitPos = some 0 ∧ (s.link 0).launched = 0 ∧ (s.link 0).completed = 0
        ∧ (s.link 0).config.map LinkConfig.slots = some 4 ∧ (s.link 0).config.map LinkConfig.width = some 8)
    ∧ (let s := stage (inSlot 8 0 (link .roleIn .locked)) (map false) (empty .tx .planar .starved);
      (s.link 0).bitPos = some (((0 : SlotId).val + 1) * 8) ∧ (s.link 0).launched = (0 : SlotId).val + 2
        ∧ (s.link 0).completed = (0 : SlotId).val)
    ∧ ∀ role ∈ [SyncRole.roleIn, .roleOut], ∀ missed ∈ [0, 1],
      ∀ x ∈ [((1 : SlotId), 8, 1), (1, 14, 1), (1, 15, 1), (1, 15, 2), (3, 31, 3), (3, 31, 4)],
      let s := stage (inSlot x.2.1 x.2.2 { link role .locked with missed := missed }) (map false) (empty .tx .planar .starved);
      s.device.resetLow = false ∧ (s.link 0).state = .locked ∧ (s.link 0).config.map LinkConfig.role = some role
        ∧ (s.link 0).missed = missed ∧ (s.link 0).bitPos = some x.2.1 ∧ x.1.val * 8 ≤ x.2.1 ∧ x.2.1 + 1 ≤ (x.1.val + 1) * 8
        ∧ (s.link 0).launched = x.1.val + 1 ∧ ((s.link 0).completed = x.1.val ∨ (s.link 0).completed = x.1.val + 1)
        ∧ (s.link 0).fsyLow = true ∧ (x.1 = 3 ↔ x.1.val + 1 = 4) := by decide +kernel

/-- An RX group that holds its first lane. -/
def fillingGroup : Group := { cond := .filling, samples := [some 1, none], stamp := some 7, source := none, nextLane := 1 }

theorem witness_NoticesEndFrameGroups :
    ((let s := stage (link .roleIn .locked) (map false) (empty .rx .planar .starved);
      (Channel.linkDown (s.chan 0)).Settled ∧ bank.names 0 = true ∧ (s.chan 0).state ≠ .closed
        ∧ (Channel.linkDown (s.chan 0)).state ≠ .closing)
    ∧ (resetting true).device.state = .resetting)
    ∧ (∀ st ∈ [ChanState.starved, .halted],
      (empty .rx .planar st).cfg.dir = .rx ∧ (empty .rx .planar st).groups = [] ∧ (empty .rx .planar st).state = st
        ∧ (empty .rx .planar st).current? = none)
    ∧ (let ch := { empty .rx .planar .starved with groups := [whole 1 2, fillingGroup] };
      ch.groups = [whole 1 2] ++ [fillingGroup] ∧ fillingGroup.cond = .filling ∧ ch.current? = none)
    ∧ (∀ gs ∈ [[], [fillingGroup]],
      let ch := { holding .rx .planar .active (record .current (pass 2 2)) with groups := gs };
      ch.cfg.dir = .rx ∧ ch.groups = gs ∧ ch.current? = some (record .current (pass 2 2)))
    ∧ ∀ g ∈ [{ whole 1 2 with cond := .launching }, txGroup .launching 0 1, txGroup .whole 0 0],
      let ch := { holding .tx .planar .active (record .current (pass 2 0)) with groups := [g] };
      ch.cfg.dir = .tx ∧ ch.groups = g :: [] ∧ ∀ r ∈ ch.list, r.ended = [] := by
  refine ⟨⟨⟨settled_of_check _ ?_, ?_, ?_, ?_⟩, rfl⟩, ?_, ?_, ?_, ?_⟩
  all_goals decide +kernel

theorem witness_UnassignedSlots :
    (let s := stage (atSlot 3 false (link .roleIn .locked)) (map false) (empty .rx .planar .halted);
      (s.link 0).state = .locked ∧ (s.link 0).config.map LinkConfig.slots = some 4 ∧ (3 : SlotId).val < 4
        ∧ (s.link 0).launched = (3 : SlotId).val ∧ (3 : SlotId).val ≤ (s.link 0).completed + 1
        ∧ (s.map 0).active[(3 : SlotId).val].tx = none)
    ∧ (let s := stage (link .roleIn .locked) (map false) (empty .rx .planar .halted);
      (s.link 0).launched = (0 : SlotId).val ∧ (s.map 0).active[(0 : SlotId).val].tx = some { chan := 0, lane := 0 }
        ∧ (s.chan 0).cfg.dir ≠ .tx)
    ∧ let s := stage (atSlot 3 true (link .roleIn .locked)) (map false) (empty .rx .planar .halted);
      (s.link 0).completed = (3 : SlotId).val ∧ (3 : SlotId).val < (s.link 0).launched
        ∧ (s.map 0).active[(3 : SlotId).val].rx = none := by decide +kernel

/-- A locked link with slots 0 and 1 assigned, as the slot events find it when they are due. -/
theorem slots_assigned (ch : Channel) (slot : Fin 2) (launched : Bool) :
    let s := stage (atSlot slot.val launched (link .roleOut .locked)) (map false) ch;
    (s.link 0).state = .locked ∧ (s.link 0).config.map LinkConfig.slots = some 4 ∧ slot.val < 4
      ∧ (launched = true → (s.link 0).completed = slot.val ∧ slot.val < (s.link 0).launched)
      ∧ (launched = false → (s.link 0).launched = slot.val ∧ slot.val ≤ (s.link 0).completed + 1)
      ∧ (s.map 0).active[slot.val].tx = some { chan := 0, lane := ⟨slot.val, by omega⟩ }
      ∧ (s.map 0).active[slot.val].rx = some { chan := 0, lane := ⟨slot.val, by omega⟩ } ∧ s.chan 0 = ch := by
  refine ⟨rfl, rfl, by omega, fun h => ?_, fun h => ?_, ?_, ?_, rfl⟩
  · subst h; exact ⟨rfl, Nat.lt_succ_self _⟩
  · subst h; exact ⟨rfl, Nat.le_succ _⟩
  · fin_cases slot <;> rfl
  · fin_cases slot <;> rfl

theorem witness_TransmitSlotLaunches :
    (∀ g ∈ [txGroup .whole 0 0, { whole 1 2 with source := none }, txGroup .waiting 0 0],
      ({ holding .tx .interleaved .active (record .current (pass 2 0)) with groups := [g] } : Channel).Settled
        ∧ g.cond ≠ .launching)
    ∧ (∀ st ∈ [ChanState.starved, .halted], (empty .tx .interleaved st).isOpen = true ∧ (empty .tx .interleaved st).cfg.dir = .tx
      ∧ (empty .tx .interleaved st).Settled ∧ (empty .tx .interleaved st).groups = []
      ∧ ∀ r ∈ (empty .tx .interleaved st).list, r.departing = false)
    ∧ ((holding .tx .interleaved .active (record .current (pass 8 0))).Settled
      ∧ (record .current (pass 8 0)).departing = true ∧ (record .current (pass 8 0)).ended = [])
    ∧ ∀ sent ∈ [1, 2],
      let ch := { holding .tx .interleaved .active (record .current (pass 2 0)) with groups := [txGroup .launching 0 sent] };
      ch.Settled ∧ ch.isOpen = true ∧ ((txGroup .launching 0 sent).nextLane = (1 : Fin 8).val ↔ sent = 1) := by
  refine ⟨fun g hg => ⟨settled_of_check _ ?_, ?_⟩, fun st hst => ⟨?_, rfl, settled_of_check _ ?_, rfl, by simp [empty, Channel.reset]⟩,
    ⟨settled_of_check _ (by decide +kernel), by decide +kernel, rfl⟩, fun sent hs => ⟨settled_of_check _ ?_, rfl, ?_⟩⟩
  · fin_cases hg <;> decide +kernel
  · fin_cases hg <;> decide +kernel
  · fin_cases hst <;> decide +kernel
  · fin_cases hst <;> decide +kernel
  · fin_cases hs <;> decide +kernel
  · simp [txGroup]

theorem witness_ReceiveSlotTakes :
    (∀ n ∈ [15, 16],
      let ch := { holding .rx .interleaved .active (record .current (pass 2 2)) with groups := List.replicate n (whole 1 2) };
      ch.Settled ∧ ch.isOpen = true ∧ ch.cfg.dir = .rx ∧ ((ch.groups.length + 1) * ch.cfg.lanes ≤ 32 ↔ n = 15))
    ∧ ((empty .rx .interleaved .halted).Settled ∧ (empty .rx .interleaved .halted).isOpen = true)
    ∧ ∀ gs ∈ [[fillingGroup], [whole 1 2]], ({ empty .rx .interleaved .starved with groups := gs } : Channel).Settled
      ∧ fillingGroup.nextLane = (1 : Fin 8).val := by
  refine ⟨fun n hn => ⟨settled_of_check _ ?_, rfl, rfl, ?_⟩, ⟨settled_of_check _ (by decide +kernel), rfl⟩,
    fun gs hg => ⟨settled_of_check _ ?_, rfl⟩⟩
  · fin_cases hn <;> decide +kernel
  · fin_cases hn <;> decide +kernel
  · fin_cases hg <;> decide +kernel

/-- A record that has read all its frames, with `n` of them finished at the link. -/
def draining (n : Nat) : BufferRecord := record .draining { pass 8 0 with departed := n, finished := n }

theorem witness_GroupDeparts :
    (¬ (∃ g gs, (State.reset.chan 0).groups = g :: gs ∧ g.cond = .launching ∧ g.nextLane = (State.reset.chan 0).cfg.lanes)
      ∧ ∀ ch, (withChan ch).device.state ≠ .resetting)
    ∧ ∀ n ∈ [0, 7], let g := txGroup .launching n 2;
      let ch := { holding .tx .interleaved .starved (draining n) with groups := [g] };
      ch.Settled ∧ ch.isOpen = true ∧ ch.cfg.dir = .tx ∧ ch.groups = g :: [] ∧ g.cond = .launching ∧ g.nextLane = ch.cfg.lanes
        ∧ g.source = some { ring := 0, pass := 1, frame := n } ∧ ch.list = [] ++ draining n :: [] ∧ (draining n).ring = 0
        ∧ (draining n).pass.count = 1 ∧ (draining n).ended = [] ∧ (draining n).finalStatus = .done
        ∧ (draining n).notify = true ∧ (draining n).state = .draining
        ∧ ((draining n).pass.finished + 1 = (draining n).frames ↔ n = 7) ∧ ∀ q ∈ ch.requests, q.ring ≠ (draining n).ring := by
  refine ⟨⟨?_, fun _ => (by decide : DevState.running ≠ .resetting)⟩, fun n hn => ⟨settled_of_check _ ?_, ?_⟩⟩
  · rintro ⟨g, gs, h, -⟩; simp [State.reset, State.chan, Channel.reset] at h
  · fin_cases hn <;> decide +kernel
  · fin_cases hn <;> decide +kernel

/-! ### Grants -/

theorem witness_RequestsWaitWhileWanted :
    (running State.reset).device.state = .running ∧ State.reset.device.state ≠ .running ∧ (1 : ChanId) ≠ 0
      ∧ Priority.urgent ≠ (empty .rx .planar .starved).cfg.priority := by decide

/-- Every entry but those listed holds a transaction. -/
def fullBut (free : List TagId) (s : State) : State :=
  { s with port := { s.port with
      table := Vector.ofFn fun t => if t ∈ free then none else some (transaction .rxWrite 2 (some 9) 4 (.data 0 0)) } }

/-- Channel `c` holds a record with nothing issued and has 2 groups; requests of its class wait. -/
def asking (c : ChanId) (pr : Priority) (s : State) : State :=
  let ch : Channel := { holding .rx .interleaved .active (record .current (pass 0 0)) with
    config := some { config .rx .interleaved with priority := pr }, groups := [whole 1 2, whole 3 4] }
  (s.setChan c ch).setPort (s.port.setWaitData pr c true)

/-- Channel 5 asks for a descriptor. -/
def askingDesc (s : State) : State :=
  (s.setChan 5 (empty .rx .interleaved .starved)).setPort (s.port.setWaitDesc 5 true)

theorem firstAfter_63 (P : ChanId → Prop) (c : ChanId) (h : P c) (least : ∀ d, P d → c ≤ d) : FirstAfter 63 P c := by
  refine ⟨h, fun d hd => ?_⟩
  have := least d hd
  have e : ∀ x : ChanId, x - ((63 : ChanId) + 1) = x := by decide
  rw [e, e]; exact this

theorem witness_GrantOrder :
    (∀ tag, (fullBut [] State.reset).port.entry tag ≠ none) ∧ State.reset.device.state = .off
    ∧ (State.reset.port.FirstFree 0 ∧ (fullBut [15] State.reset).port.FirstFree 15)
    ∧ (let s : State := { loading with port := { Port.reset with wait4 := [.configRead] } };
      s.device.state = .loading ∧ Class4.configRead ∈ s.port.wait4 ∧ s.port.FirstFree 0
        ∧ Class4.configRead ∉ loading.port.wait4 ∧ loading.port.FirstFree 1)
    ∧ (let s : State := { running State.reset with
        writer := { (running State.reset).writer with list := [doneReport 1 0 .ok 0 0] }
        port := { Port.reset with wait0 := true } };
      s.device.state = .running ∧ s.port.wait0 = true ∧ s.writer.wantsWrite = true)
    ∧ (∀ pr ∈ [Priority.urgent, .normal], let s := asking 63 pr (asking 7 pr (running State.reset));
      s.device.state = .running ∧ s.port.FirstFree 0 ∧ s.port.wait0 = false
        ∧ FirstAfter (s.port.dataPtr pr) (fun c => s.port.waitData pr c = true ∧ s.port.data c < 2
            ∧ (s.chan c).wantsData (s.port.data c) = true) 7)
    ∧ (let s := askingDesc (running State.reset);
      (∀ pr ∈ [Priority.urgent, .normal], ∀ c, s.port.waitData pr c = false)
        ∧ FirstAfter s.port.ptr3 (fun c => s.port.waitDesc c = true ∧ s.port.desc c < 1 ∧ (s.chan c).wantsDesc = true) 5)
    ∧ (let s : State := { running State.reset with port := { Port.reset with wait4 := [.cmdRead] } };
      s.port.wait4 = .cmdRead :: [] ∧ (∀ c, s.port.waitDesc c = false) ∧ (running State.reset).port.wait4 = []) := by
  refine ⟨by decide +kernel, by decide, by decide +kernel, by decide +kernel, by decide +kernel, fun pr hpr => ?_,
    by decide +kernel, by decide +kernel⟩
  fin_cases hpr <;> decide +kernel

theorem witness_CompletionWriteGrantedWhole :
    let x := doneReport 1 0 .ok 0 0
    let s : State := { running State.reset with
      writer := { (running State.reset).writer with list := [x], writeIndex := 31 }, port := { Port.reset with wait0 := true } };
    s.device.state = .running ∧ s.port.FirstFree 0 ∧ s.port.wait0 = true
      ∧ s.writer.queue = some { base := 0x2000, size := 32 } ∧ s.writer.list = x :: [] ∧ s.writer.outstanding = false
      ∧ (s.writer.writeIndex - s.writer.hostHead).toNat < 32 := by decide +kernel

/-- A PLANAR request in formation, one lane of two issued. -/
def forming (dir : Direction) : Channel :=
  { holding dir .planar .active (record .current (pass 2 0)) with requests := [request 2 1 0] }

theorem witness_DataGrantsFixContent :
    (∀ dir ∈ [Direction.rx, .tx], ∀ issued ∈ [0, 5, 6],
      let ch := { holding dir .planar .active (record .current (pass issued 0)) with
        groups := if dir = Direction.rx then [whole 1 2, whole 3 4] else [] };
      ch.Settled ∧ ch.state ≠ .closing ∧ (∀ q ∈ ch.requests, q.inFormation = false)
        ∧ ch.current? = some (record .current (pass issued 0)) ∧ (record .current (pass issued 0)).repeated = false
        ∧ (∀ x ∈ ch.list, x.untouched = false ∧ x.ring = (record .current (pass issued 0)).ring)
        ∧ (issued + 2 < 8 ↔ issued ≠ 6))
    ∧ (let ch := { holding .rx .interleaved .closing (record .current (pass 2 2)) with
        groups := [whole 1 2], closeRec := some { mode := .graceful, tag := 8 } };
      ch.Settled ∧ ch.state = .closing ∧ (∀ q ∈ ch.requests, q.inFormation = false)
        ∧ ch.current? = some (record .current (pass 2 2))
        ∧ ∀ x ∈ ch.list, x.state = .current → x.ring = (record .current (pass 2 2)).ring)
    ∧ ∀ dir ∈ [Direction.rx, .tx], (forming dir).Settled ∧ (forming dir).state ≠ .closing ∧ (forming dir).cfg.layout = .planar
      ∧ (forming dir).Splits [] (request 2 1 0) [] ∧ (request 2 1 0).inFormation = true
      ∧ (request 2 1 0).answered ≤ (request 2 1 0).issued ∧ (forming dir).Holds [] (record .current (pass 2 0)) []
      ∧ (record .current (pass 2 0)).ring = (request 2 1 0).ring := by
  refine ⟨fun dir hd issued hi => ⟨settled_of_check _ ?_, ?_⟩, ⟨settled_of_check _ (by decide +kernel), by decide +kernel⟩,
    fun dir hd => ⟨settled_of_check _ ?_, ?_⟩⟩ <;>
    fin_cases hd <;> first | decide +kernel | (fin_cases hi <;> decide +kernel)

theorem witness_DescriptorAndClass4Granted :
    (empty .rx .planar .starved).Settled ∧ (empty .rx .planar .starved).state ≠ .closing
      ∧ (running State.reset).cmd.queue = some { base := 0x1000, size := 16 } ∧ (running State.reset).transfer = none
      ∧ loading.device.loadAddr = some 0 ∧ loading.transfer = none
      ∧ (transferring .readList .listRead).transfer = some (oneEntry .readList)
      ∧ (oneEntry .readList).pieces[0]? = some (0, 4) :=
  ⟨settled_of_check _ (by decide +kernel), by decide, rfl, rfl, rfl, rfl, rfl, rfl⟩

/-! ### Responses -/

theorem witness_CompletionWriteAnswered :
    ∀ count ∈ [1, 2], let t := transaction .cplWrite 0 none 32 .plain;
      let s := issued t (running { State.reset with coal := { count := count, time := 0, counter := 0, timer := none } });
      s.port.entry 0 = some t ∧ t.kind = .cplWrite ∧ s.writer.queue = some { base := 0x2000, size := 32 }
        ∧ s.device.state = .running ∧ (s.coal.counter + 1 = s.coal.count ↔ count = 1) := by decide +kernel

/-- The RX write or TX read of channel 0's request 0. -/
def dataTrans (kind : TransKind) : Transaction := transaction kind 2 (some 0) 4 (.data 0 0)

theorem dataTrans_of (kind : TransKind) : (dataTrans kind).OfRequest 0 0 := ⟨rfl, by show (2 : Nat) ≠ 3; decide, 0, rfl⟩

theorem issued_entry (t : Transaction) (ch : Channel) : (issued t (withChan ch)).port.entry 0 = some t := by
  simp [issued, Port.entry, withChan]

theorem issued_running (t : Transaction) (ch : Channel) : (issued t (withChan ch)).device.state ≠ .resetting := by
  show DevState.running ≠ .resetting; decide

/-- A response of the only request `q` of an RX channel with the one record `r`. -/
def responding (st : ChanState) (mode : Option CloseMode) (groups : List Group) (r : BufferRecord) (q : DataRequest) :
    State :=
  issued (dataTrans .rxWrite) (withChan { holding .rx .planar st r with
    requests := [q], groups := groups, closeRec := mode.map fun m => { mode := m, tag := 8 } })

theorem witness_ReceiveWriteAnsweredOkay :
    (∀ x ∈ [(ChanState.active, none, [], record .current (pass 2 0)), (.starved, none, [], record .draining (pass 8 0)),
        (.halted, none, [], { record .ending (pass 2 0) with finalStatus := .aborted }),
        (.closing, some CloseMode.abort, [], { record .current (pass 2 0) with finalStatus := .aborted }),
        (.closing, some .graceful, [whole 1 2], record .current (pass 2 0)),
        (.closing, some .graceful, [whole 1 2], record .current { pass 2 0 with count := 2 })],
      ∀ q ∈ [request 1 1 0, { request 2 2 0 with answered := 1 }, { request 2 1 0 with cut := true }, request 2 2 0],
      let r := x.2.2.2;
      let s := responding x.1 x.2.1 x.2.2.1 r q;
      let ch := s.chan 0;
      (dataTrans .rxWrite).OfRequest 0 q.id ∧ ch.Settled ∧ s.device.state ≠ .resetting
        ∧ s.port.entry 0 = some (dataTrans .rxWrite) ∧ ch.cfg.dir = .rx ∧ ch.Splits [] q []
        ∧ ch.Holds [] r [] ∧ r.ring = q.ring ∧ (r.state = .current ∨ r.state = .draining ∨ r.state = .ending)
        ∧ (q.answered + 1 = q.issued ∧ (q.issued = q.lanes ∨ q.cut = true) ↔ q ≠ request 2 2 0)
        ∧ (x.2.1 = some .graceful → ch.closeRec = some { mode := .graceful, tag := 8 } ∧ ch.groups ≠ []) ∧ r.ended = [])
    ∧ ∀ x ∈ [(4, true, [(2, doneReport 0 0 .done 0 0)]), (6, false, []), (6, true, []), (6, true, [(2, doneReport 0 0 .done 0 0)])],
      let p := pass 8 x.1;
      let r := { record .current { pass 0 0 with count := 3 } with
        repeated := true, notify := x.2.1, ended := [p], passCpls := x.2.2 };
      let q := request 1 1 0;
      let ch := { holding .rx .planar .active r with requests := [q] };
      let s := issued (dataTrans .rxWrite) (withChan ch);
      (dataTrans .rxWrite).OfRequest 0 q.id ∧ (s.chan 0).Settled ∧ s.device.state ≠ .resetting
        ∧ s.port.entry 0 = some (dataTrans .rxWrite) ∧ ch.state ≠ .closing ∧ ch.cfg.dir = .rx ∧ ch.Splits [] q []
        ∧ ch.Holds [] r [] ∧ r.ring = q.ring ∧ r.state = .current ∧ r.finalStatus = .done ∧ r.ended = [] ++ p :: []
        ∧ p.count = q.pass ∧ r.pass.count ≠ p.count ∧ q.answered + 1 = q.issued ∧ q.issued = q.lanes ∧ q.error = false
        ∧ q.cut = false ∧ (∀ y ∈ r.passCpls, p.count < y.1) ∧ (p.answered + q.count < r.frames ↔ x.1 = 4) := by
  refine ⟨fun x hx q hq => ⟨?_, settled_of_check _ ?_, issued_running _ _, issued_entry .., ?_⟩,
    fun x hx => ⟨dataTrans_of _, settled_of_check _ ?_, issued_running _ _, issued_entry .., ?_⟩⟩
  · fin_cases hq <;> exact dataTrans_of _
  · fin_cases hx <;> fin_cases hq <;> decide +kernel
  · fin_cases hx <;> fin_cases hq <;> decide +kernel
  · fin_cases hx <;> decide +kernel
  · fin_cases hx <;> decide +kernel

theorem witness_LastWriteRetiresRecord :
    ∀ x ∈ [(ChanState.starved, none, record .draining (pass 8 6), Status.done),
        (.halted, none, { record .ending (pass 8 6) with finalStatus := .aborted, notify := false }, .aborted),
        (.closing, some CloseMode.abort, { record .current (pass 2 0) with finalStatus := .aborted }, .aborted),
        (.closing, some .graceful, record .draining (pass 8 6), .done),
        (.closing, some .graceful, record .current (pass 2 0), .partialFrames),
        (.closing, some .graceful, { record .current (pass 2 0) with finalStatus := .busError }, .busError)],
      ∀ q ∈ [request 1 1 0, { request 2 1 0 with cut := true }],
      let r := x.2.2.1;
      let s := responding x.1 x.2.1 [] r q;
      let ch := s.chan 0;
      (dataTrans .rxWrite).OfRequest 0 q.id ∧ ch.Settled ∧ s.device.state ≠ .resetting
        ∧ s.port.entry 0 = some (dataTrans .rxWrite) ∧ ch.cfg.dir = .rx ∧ ch.Splits [] q [] ∧ ch.Holds [] r []
        ∧ r.ring = q.ring ∧ r.ended = [] ∧ r.window = some 1 ∧ q.answered + 1 = q.issued ∧ (q.issued = q.lanes ∨ q.cut = true)
        ∧ ch.closeRec = x.2.1.map (fun m => { mode := m, tag := 8 }) ∧ ch.groups = []
        ∧ (r.state = .current → ch.state = .closing) ∧ (r.notify = true ∨ x.2.2.2 ≠ .done) := by
  intro x hx q hq
  refine ⟨?_, settled_of_check _ ?_, issued_running _ _, issued_entry .., ?_⟩
  · fin_cases hq <;> exact dataTrans_of _
  · fin_cases hx <;> fin_cases hq <;> decide +kernel
  · fin_cases hx <;> fin_cases hq <;> decide +kernel

theorem witness_DataErrorHaltsUnlessAbsorbed :
    ∀ x ∈ [(ChanState.active, false), (.halted, false), (.halted, true), (.active, true), (.closing, true)],
      ∀ dir ∈ [Direction.rx, .tx], ∀ flush ∈ [false, true],
      let q := { request 1 1 0 with absorbed := x.2, flush := flush };
      let kind := if dir = Direction.rx then TransKind.rxWrite else .txRead;
      let ch := { holding dir .interleaved x.1 (record .draining (pass 8 0)) with
        requests := [q], closeRec := if x.1 = .closing then some { mode := .graceful, tag := 8 } else none };
      let s := issued (dataTrans kind) (withChan ch);
      s.device.state ≠ .resetting ∧ s.port.entry 0 = some (dataTrans kind) ∧ (dataTrans kind).OfRequest 0 q.id
        ∧ (s.chan 0).Splits [] q [] ∧ (s.chan 0).state = x.1 ∧ (s.chan 0).Settled ∧ q.answered + 1 = q.issued
        ∧ q.issued = q.lanes ∧ (∃ y ∈ (s.chan 0).list, y.state = .draining ∧ y.finalStatus = .done ∧ y.ring = q.ring) := by
  intro x hx dir hd flush hf
  refine ⟨issued_running _ _, issued_entry .., dataTrans_of _, ⟨rfl, by simp⟩, rfl, settled_of_check _ ?_, rfl, rfl,
    _, List.mem_singleton_self _, rfl, rfl, rfl⟩
  fin_cases hx <;> fin_cases hd <;> fin_cases hf <;> decide +kernel

theorem witness_TransmitReadFillsItsGroups :
    ∀ x ∈ [(ChanState.active, record .current (pass 2 0), false), (.halted, record .draining (pass 2 0), true),
        (.halted, { record .ending (pass 2 0) with finalStatus := .aborted }, true),
        (.active, { record .ending (pass 2 0) with finalStatus := .busError }, true),
        (.closing, { record .current (pass 2 0) with finalStatus := .partialFrames }, true)],
      ∀ layout ∈ [Layout.interleaved, .planar],
      let r := x.2.1;
      let q := { request (if layout = .planar then 2 else 1) 1 0 with samples := [], absorbed := x.2.2 };
      let ch := { holding .tx layout x.1 r with
        requests := [q], groups := if x.2.2 then [] else [txGroup .waiting 0 0, txGroup .waiting 1 0]
        closeRec := if x.1 = .closing then some { mode := .graceful, tag := 8 } else none };
      let s := issued (dataTrans .txRead) (withChan ch);
      (dataTrans .txRead).OfRequest 0 q.id ∧ (s.chan 0).Settled ∧ s.device.state ≠ .resetting
        ∧ s.port.entry 0 = some (dataTrans .txRead) ∧ [1#8, 2, 3, 4].length = (dataTrans .txRead).length
        ∧ ch.cfg.dir = .tx ∧ ch.cfg.layout = layout ∧ 1 ≤ ch.cfg.lanes ∧ ch.Splits [] q []
        ∧ ch.Holds [] r [] ∧ r.ring = q.ring ∧ (r.state = .current ∨ r.state = .draining ∨ r.state = .ending)
        ∧ (r.state = .ending ∨ r.finalStatus ≠ .done ∨ r.pass.finished < r.frames) ∧ r.ended = [] ∧ r.notify = true
        ∧ q.answered + 1 = q.issued ∧ (q.issued = q.lanes ↔ layout = .interleaved)
        ∧ (dataTrans .txRead).ref = .data q.id 0 := by
  intro x hx layout hl
  refine ⟨dataTrans_of _, settled_of_check _ ?_, issued_running _ _, issued_entry .., ?_⟩
  · fin_cases hx <;> fin_cases hl <;> decide +kernel
  · fin_cases hx <;> fin_cases hl <;> decide +kernel

/-- A DESC_READ of channel 0 outstanding or absorbed; `list` stands before the record it brings. -/
def reading (d : DescRead) (st : ChanState) (list : List BufferRecord) : State :=
  running (((State.reset.setChan 0 { empty .rx .interleaved st with
      descRead := d, list := list, fetch := BitVec.ofNat 16 list.length, producer := 4,
      consumed := consumedIndex list (BitVec.ofNat 16 list.length) }).setWindow 1 (openWindow 0x8000 0x8FFF 1)))

/-- A RETIRING record that waits to deliver its completion. -/
def retired : BufferRecord :=
  { record .retiring (pass 8 8) with window := none, completion := some (doneReport 0 0 .done 0 0) }

def descTrans : Transaction := transaction .descRead 3 (some 0) 16 .plain

/-- A descriptor of `n` frames at an address, with NOTIFY. -/
def descriptor (n addrHigh : Byte) : List Byte := bytes 16 [(1, addrHigh), (8, n), (10, 0x55), (12, 1)]

theorem witness_DescriptorReadAnswered :
    (descTrans.kind = .descRead ∧ descTrans.channel = some 0 ∧ (descriptor 8 0x80).length = descTrans.length)
    ∧ ((reading .absorbed .halted []).chan 0).Settled ∧ ((reading .absorbed .halted []).chan 0).descRead = .absorbed
    ∧ ∀ x ∈ [(ChanState.active, [record .current (pass 2 2)]), (.starved, [retired]), (.starved, []),
        (.active, [record .current (pass 2 2), { record .next (pass 0 0) with ring := 1 }])],
      let s := issued descTrans (reading .outstanding x.1 x.2);
      (∀ y ∈ x.2, y.state = .retiring ∨ y.state = .next ∨ y.state = .current ∧ y.finalStatus = .done) ∧
      (s.chan 0).Settled ∧ s.device.state ≠ .resetting ∧ s.port.entry 0 = some descTrans ∧ (s.chan 0).state = x.1
        ∧ (s.chan 0).state ≠ .closing ∧ (s.chan 0).descRead = .outstanding ∧ (s.chan 0).list = x.2
        ∧ (∀ y, (s.chan 0).list.getLast? = some y → y.ring + 1 = (s.chan 0).fetch)
        ∧ ((s.chan 0).current? = none ↔ x.1 = .starved)
        ∧ (x.1 = .starved → ∀ y ∈ (s.chan 0).list, y.untouched = false ∧ y.ring ≠ (s.chan 0).fetch)
        ∧ s.Picks (u64At (descriptor 8 0x80) 0).toNat (8 * 2 * 1) .write 1
        ∧ s.PicksNone (u64At (descriptor 8 0x90) 0).toNat (8 * 2 * 1) .write
        ∧ (u16At (descriptor 8 0x80) 8).toNat = 8 ∧ (u16At (descriptor 0 0x80) 8).toNat = 0 := by
  refine ⟨by decide, settled_of_check _ (by decide +kernel), rfl, fun x hx => ⟨?_, settled_of_check _ ?_, ?_⟩⟩
  · fin_cases hx <;> decide +kernel
  · fin_cases hx <;> decide +kernel
  · fin_cases hx <;> decide +kernel

/-- A STARVED channel of either direction with a DRAINING record of which one transaction is out, and a descriptor read. -/
theorem witness_DescriptorReadAnswered_draining :
    ∀ dir ∈ [Direction.rx, .tx],
      let q := { request 1 1 0 with samples := [] };
      let ch := { holding dir .interleaved .starved (record .draining (pass 8 6)) with
        requests := [q], descRead := .outstanding, producer := 2 };
      let s := issued descTrans (withChan ch);
      (s.chan 0).Settled ∧ (s.chan 0).cfg.dir = dir ∧ (s.chan 0).current? = none
        ∧ (∀ y ∈ (s.chan 0).list, y.untouched = false ∧ y.state = .draining ∧ y.finalStatus = .done
          ∧ ∃ x ∈ (s.chan 0).requests, x.ring = y.ring ∧ x.answered ≠ x.issued ∧ x.issued ≤ x.lanes) := by
  intro dir hd
  refine ⟨settled_of_check _ ?_, ?_, ?_, ?_⟩
  all_goals fin_cases hd <;> decide +kernel

theorem witness_CommandReadAnswered :
    ∀ st ∈ [CmdState.fetching, .stopped], ∀ held ∈ [23, 24], let t := transaction .cmdRead 4 none 64 (.head 4);
      let s := issued t { running State.reset with
        cmd := { (running State.reset).cmd with state := st }, writer := { Writer.reset with reservations := held } };
      s.device.state ≠ .resetting ∧ s.device.state = .running ∧ s.port.entry 0 = some t ∧ t.kind = .cmdRead
        ∧ (command 1 []).length = t.length ∧ s.cmd.state = st ∧ (s.Grantable ↔ held = 23) := by
  intro st hst held hh
  refine ⟨(by decide : DevState.running ≠ .resetting), rfl, by simp [issued, Port.entry], rfl, by decide, rfl, fun h => ?_, fun h => ?_⟩
  · have := h.held
    fin_cases hh
    · rfl
    · exact absurd this (by decide : ¬ 24 < 24)
  · subst h
    exact grantable _ ⟨(by decide : 0 + 23 < 32), (by decide : 23 < 24), rfl,
      (by decide +kernel : ∀ l, (State.reset.link l).event = none)⟩

/-- A transfer of two pieces, both granted or one. -/
def twoPieces (dir : ListDir) (answered : Nat) : ListTransfer :=
  { oneEntry dir with pieces := [(0, 4), (4, 4)], issued := 2, answered := answered, held := [] }

def transferringTwo (dir : ListDir) (kind : TransKind) (answered : Nat) : State :=
  { transferring dir kind with transfer := some (twoPieces dir answered) }

theorem witness_ListTransferAnswered :
    (∀ x ∈ [(ListDir.readList, TransKind.listRead), (.writeCopy, .listWrite)], ∀ answered ∈ [0, 1], ∀ ok ∈ [false, true],
      ∀ stopped ∈ [false, true],
      let y := { twoPieces x.1 answered with stopped := stopped, error := !ok };
      let s := { transferringTwo x.1 x.2 answered with transfer := some y };
      s.device.state = .running ∧ s.device.state ≠ .resetting
        ∧ s.port.entry 0 = some (transaction x.2 4 none 4 (.piece 0)) ∧ s.transfer = some y
        ∧ [1#8, 2, 3, 4].length = (transaction x.2 4 none 4 (.piece 0)).length ∧ y.dir = x.1 ∧ y.stopped = stopped
        ∧ (y.answered + 1 = y.issued ∧ (y.issued = y.pieces.length ∨ y.error = true ∨ y.stopped = true) ↔ answered = 1))
    ∧ (let y := { oneEntry .readList with answered := 1, held := [(0, [128#8, 0, 2, 8])] };
      firstBad (wordsOf y.list) = some 0)
    ∧ let y := { oneEntry .readList with answered := 1, held := [(0, [3#8, 0, 2, 8])] };
      firstBad (wordsOf y.list) = none := by decide +kernel

/-! ### The end of a pass, admission, the coalescer and the laws -/

theorem witness_PassEndDrainsOrRepeats :
    (∀ issued ∈ [7, 8],
      let r := record .current (pass issued 2);
      let ch := { holding .rx .planar .closing r with groups := [whole 1 2], closeRec := some { mode := .graceful, tag := 8 } };
      ch.Holds [] r [] ∧ r.state = .current ∧ ch.state = .closing ∧ ch.cfg.dir = .rx ∧ (r.pass.issued < r.frames ↔ issued = 7))
    ∧ (∀ repeated ∈ [false, true], ∀ newer ∈ [[], [{ record .next (pass 0 0) with ring := 1 }],
        [{ record (.poisoned .badDescriptor) (pass 0 0) with ring := 1 }]], ∀ waiting ∈ [3, 4],
      let r := { record .current (pass 8 2) with
        repeated := repeated, passCpls := List.replicate waiting (1, doneReport 0 0 .done 0 0) };
      let ch := { holding .rx .planar .active r with list := r :: newer };
      ch.state = .active ∧ ch.Holds [] r newer ∧ r.state = .current ∧ r.frames ≤ r.pass.issued
        ∧ ¬ 1 < (ch.producer - r.ring).toNat ∧ r.passCpls.length = waiting) := by decide +kernel

/-- A REPEAT record with one pass ended and answered, whose completion waits. -/
def repeating : Channel :=
  holding .rx .planar .active { record .current { pass 2 2 with count := 2 } with
    repeated := true, passCpls := [(1, doneReport 0 0 .done 0 0)] }

theorem witness_AdmissionOrderAndOffers :
    let e : LinkEvent := { locked := true, lost := false, slip := false, slips := 0, losses := 0, linkState := .locked, stamp := 9 };
    let d : DeviceEvent := { first := .tail, seenPost := false, seenTail := true, seenHead := false, channel := none, index := 7,
                             reason := .range, merged := 0 };
    let full := fun n => ({ running State.reset with writer := { (running State.reset).writer with
      list := List.replicate n (doneReport 1 0 .ok 0 0) } } : State);
    let offering := withChan { holding .rx .planar .starved retired with consumed := 1 };
    (full 31).device.state = .running ∧ (full 31).writer.list.length + (full 31).writer.reservations < 32
      ∧ ¬ (full 32).writer.list.length + (full 32).writer.reservations < 32
      ∧ ((running (State.reset.setLink 7 { link .roleIn .locked with event := some e })).link 7).event = some e
      ∧ (∀ k : LinkId, k < 7 → ((running (State.reset.setLink 7 { link .roleIn .locked with event := some e })).link k).event = none)
      ∧ (∀ l, ((running State.reset).link l).event = none)
      ∧ (running { State.reset with writer := { Writer.reset with devEvent := some d } }).writer.devEvent = some d
      ∧ (waiting (command 1 [])).cmd.state = .waitSpace ∧ (waiting (command 1 [])).writer.reservations < 24
      ∧ (waiting (command 1 [])).writer.devEvent = none
      ∧ offering.cmd.state ≠ .waitSpace ∧ (offering.chan 0).offers = some (doneReport 0 0 .done 0 0)
      ∧ FirstAfter offering.writer.pointer (fun c => (offering.chan c).offers.isSome = true) 0
      ∧ (∀ c, ((running State.reset).chan c).offers = none)
      ∧ (offering.chan 0).list = retired :: [] ∧ retired.passCpls = [] ∧ retired.state = .retiring
      ∧ (offering.chan 0).Settled ∧ (offering.chan 0).state ≠ .closing ∧ (offering.chan 0).current? = none
      ∧ repeating.Settled ∧ repeating.state ≠ .closing ∧ repeating.offers = some (doneReport 0 0 .done 0 0)
      ∧ ∀ y, repeating.current? = some y → y.pass.issued < y.frames := by
  refine ⟨?_, ?_, ?_, ?_, ?_, ?_, ?_, ?_, ?_, ?_, ?_, ?_, ?_, ?_, ?_, ?_, ?_, settled_of_check _ ?_, ?_, ?_, settled_of_check _ ?_,
    ?_, ?_, (by intro y h; cases h; decide)⟩
  all_goals decide +kernel

theorem witness_CoalescerFires :
    (∀ counter ∈ [0, 1, 2], (0 < counter ∧ 2 ≤ counter) ∨ ¬ (0 < counter ∧ 2 ≤ counter))
    ∧ ∀ x ∈ [(some 4, 5), (some 4, 0), (some 3, 5), (none, 5)],
      let s : State := { State.reset with coal := { count := 2, time := x.2, counter := 1, timer := x.1 } };
      s.device.resetLow = false ∧ s.coal.timer = x.1 ∧ s.coal.time = x.2 := by decide

/-- A running part with a command in its queue, for the laws that every step keeps. -/
def busy : State := { running State.reset with pending := [.grant] }

theorem step_busy : ∃ t, step busy = .next t := ⟨_, rfl⟩

theorem witness_StepKeepsPortLaw : busy.PortLaw ∧ ∃ t, step busy = .next t := by
  refine ⟨fun c => ?_, step_busy⟩
  have e : ∀ d, Port.reset.entriesOf c d = 0 := by
    intro d; simp [Port.entriesOf, Port.entry, Port.reset]
  have h : busy.port = Port.reset := rfl
  rw [h, e, e]
  simp [Port.data, Port.desc, Port.reset, dataLimit, descLimit]

theorem witness_StepKeepsLinkLaw : busy.LinkLaw ∧ ∃ t, step busy = .next t := by
  refine ⟨fun l => ?_, step_busy⟩
  have e : busy.link l = Link.reset := by simp [busy, running, State.link, State.reset]
  have m : busy.map l = SlotMap.reset := by simp [busy, running, State.map, State.reset]
  rw [e, m]
  exact ⟨⟨by decide, by decide, by decide, by decide, (fun _ h => by cases h), by decide, by decide⟩, by decide,
    by decide⟩

theorem witness_StepKeepsUseLaw : busy.UseLaw ∧ ∃ t, step busy = .next t := by
  have c : ∀ c, busy.chan c = Channel.reset := fun c => by simp [busy, running, State.chan, State.reset]
  refine ⟨⟨fun w => ?_, fun k r hr => ?_, fun k _ => ?_, by decide, fun _ => rfl⟩, step_busy⟩
  · simp [State.holders, c, Channel.reset]
    simp [busy, running, State.window, State.reset, Window.reset]
  · rw [c] at hr; simp [Channel.reset] at hr
  · rw [c]; exact ⟨rfl, rfl⟩

theorem witness_StepKeepsFifoRoomAndHeldRecords : busy.RoomLaw ∧ ∃ t, step busy = .next t := by
  refine ⟨fun k => ?_, step_busy⟩
  have c : busy.chan k = Channel.reset := by simp [busy, running, State.chan, State.reset]
  rw [c]; decide

theorem witness_StepKeepsRegisterLaws :
    (∃ t, step busy = .next t) ∧ busy.WindowLaw ∧ busy.PhaseLaw ∧ busy.CoalescerLaw ∧ busy.AddressLaw ∧ busy.Quiet := by
  refine ⟨step_busy, fun w => ?_, fun q hq => ?_, ⟨by decide, by decide, by decide, by decide, ?_⟩, ⟨by decide, ?_⟩, fun k q hq => ?_⟩
  · have e : busy.window w = Window.reset := by simp [busy, running, State.window, State.reset]
    rw [e]; exact ⟨by decide, by decide⟩
  · cases hq; exact ⟨⟨5, by decide⟩, by decide⟩
  · intro e h; cases h
  · intro a h; cases h
  · have c : busy.chan k = Channel.reset := by simp [busy, running, State.chan, State.reset]
    rw [c] at hq; simp [Channel.reset] at hq

end Sys2Proof.Tests
end

section
/-! SUPPORT. The two link commands that prepare a link, CONFIGURE_LINK (R3) and START_LINK (R4): what a record's fields say, what
each check answers, and the statements that these settle. -/

namespace Sys2Proof.Machine

/-! ## The fields of a CONFIGURE_LINK record (R3, R169) -/

/-- The four range checks of R3 on a record, in the order of its bytes: the slots, the slot width, the sync role and the idle
mode. -/
def LinkFieldsInRange (r : List Byte) : Prop :=
  (4 ≤ (byteAt r 17).toNat ∧ (byteAt r 17).toNat ≤ 128) ∧ (byteAt r 18 = 8 ∨ byteAt r 18 = 16)
    ∧ (byteAt r 19).toNat ≤ 1 ∧ (byteAt r 20).toNat ≤ 1

/-- The five values that a record with its fields in range gives (R3). -/
def linkFields (r : List Byte) : LinkConfig :=
  { slots := (byteAt r 17).toNat, width := (byteAt r 18).toNat,
    role := if byteAt r 19 = 0 then .roleIn else .roleOut,
    idleMode := if byteAt r 20 = 0 then .drive else .release, idleValue := u16At r 22 }

theorem widthOk_iff (b : Byte) : widthOk b = true ↔ b = 8 ∨ b = 16 := by
  simp [widthOk]

theorem roleOf_in_range (b : Byte) (h : b.toNat ≤ 1) : roleOf b = some (if b = 0 then .roleIn else .roleOut) := by
  rcases byte_le_one b h with rfl | rfl <;> rfl

theorem toNat_le_one_of_roleOf {b : Byte} {role : SyncRole} (h : roleOf b = some role) : b.toNat ≤ 1 := by
  unfold roleOf at h
  split at h
  · next hb => simp [hb]
  · split at h
    · next hb => simp [hb]
    · cases h

theorem idleModeOf_in_range (b : Byte) (h : b.toNat ≤ 1) : idleModeOf b = some (if b = 0 then .drive else .release) := by
  rcases byte_le_one b h with rfl | rfl <;> rfl

theorem toNat_le_one_of_idleModeOf {b : Byte} {idle : IdleMode} (h : idleModeOf b = some idle) : b.toNat ≤ 1 := by
  unfold idleModeOf at h
  split at h
  · next hb => simp [hb]
  · split at h
    · next hb => simp [hb]
    · cases h

theorem linkConfigOf_in_range {r : List Byte} (h : LinkFieldsInRange r) : linkConfigOf r = some (linkFields r) := by
  obtain ⟨⟨hlo, hhi⟩, hwidth, hrole, hidle⟩ := h
  simp only [linkConfigOf, roleOf_in_range _ hrole, idleModeOf_in_range _ hidle]
  exact if_pos ⟨hlo, hhi, (widthOk_iff _).mpr hwidth⟩

theorem linkFieldsInRange_of_linkConfigOf {r : List Byte} {cfg : LinkConfig} (h : linkConfigOf r = some cfg) :
    LinkFieldsInRange r := by
  unfold linkConfigOf at h
  split at h
  · next role idle hrole hidle =>
    split at h
    · next hfields =>
      obtain ⟨hlo, hhi, hwidth⟩ := hfields
      exact ⟨⟨hlo, hhi⟩, (widthOk_iff _).mp hwidth, toNat_le_one_of_roleOf hrole, toNat_le_one_of_idleModeOf hidle⟩
    · cases h
  · cases h

/-! ## A link command at its take -/

/-- While RUNNING, a command that completes at its take ends as the statements say it (R152). -/
theorem next_of_complete {s t : State} {x : Completion} (h : s.device.state = .running) (e : t = s.complete x) :
    (Host.Outcome.next t : Result) = .next (s.doneWith x) := by
  rw [e, State.complete_eq s x h]

theorem State.Taking.exec_configureLink {s : State} {r : List Byte} (h : s.Taking r) (hk : byteAt r 0 = 2) :
    exec .configureLink s = .next (s.configureLink r) :=
  congrArg Host.Outcome.next (h.take .configureLink State.configureLink hk)

theorem State.Taking.exec_startLink {s : State} {r : List Byte} (h : s.Taking r) (hk : byteAt r 0 = 3) :
    exec .startLink s = .next (s.startLink r) :=
  congrArg Host.Outcome.next (h.take .startLink State.startLink hk)

section
variable {s : State} {r : List Byte} {l : LinkId}

/-! ## CONFIGURE_LINK, check by check (R3) -/

theorem State.configureLink_no_link (hn : 8 ≤ (byteAt r 16).toNat) :
    s.configureLink r = s.complete (noLinkDone .configureLink r) := by
  simp only [State.configureLink, linkOf_none _ hn]

theorem State.configureLink_active (hl : (byteAt r 16).toNat = l.val) (hst : (s.link l).state ≠ .off) :
    s.configureLink r = s.complete (s.linkDone .configureLink r .linkActive l) := by
  simp only [State.configureLink, linkOf_eq _ l hl]
  exact if_pos hst

theorem State.configureLink_bad (hl : (byteAt r 16).toNat = l.val) (hst : (s.link l).state = .off)
    (hbad : ¬ (LinkFieldsInRange r ∧ reservedZero .configureLink r = true)) :
    s.configureLink r = s.complete (s.linkDone .configureLink r .badParam l) := by
  simp only [State.configureLink, linkOf_eq _ l hl]
  refine (if_neg (not_not.mpr hst)).trans ?_
  split
  · rfl
  · next cfg hcfg => exact if_neg fun hz => hbad ⟨linkFieldsInRange_of_linkConfigOf hcfg, hz⟩

/-- Every check passes: the five values are stored, and both banks of the link are unassigned. -/
theorem State.configureLink_stores (hl : (byteAt r 16).toNat = l.val) (hst : (s.link l).state = .off)
    (hfields : LinkFieldsInRange r) (hz : reservedZero .configureLink r = true) :
    s.configureLink r = ((s.setLink l { s.link l with config := some (linkFields r) }).setMap l
        { s.map l with active := Bank.unassigned, standby := Bank.unassigned }).complete
      (s.linkDone .configureLink r .ok l) := by
  simp only [State.configureLink, linkOf_eq _ l hl, linkConfigOf_in_range hfields]
  exact (if_neg (not_not.mpr hst)).trans (if_pos hz)

/-! ## START_LINK, check by check (R4) -/

theorem State.startLink_no_link (hn : 8 ≤ (byteAt r 16).toNat) :
    s.startLink r = s.complete (noLinkDone .startLink r) := by
  simp only [State.startLink, linkOf_none _ hn]

theorem State.startLink_bad (hl : (byteAt r 16).toNat = l.val) (hz : ¬ reservedZero .startLink r = true) :
    s.startLink r = s.complete (s.linkDone .startLink r .badParam l) := by
  simp only [State.startLink, linkOf_eq _ l hl]
  exact if_neg hz

theorem State.startLink_active (hl : (byteAt r 16).toNat = l.val) (hz : reservedZero .startLink r = true)
    (hst : (s.link l).state ≠ .off) : s.startLink r = s.complete (s.linkDone .startLink r .linkActive l) := by
  simp only [State.startLink, linkOf_eq _ l hl]
  exact (if_pos hz).trans (if_pos hst)

theorem State.startLink_unconfigured (hl : (byteAt r 16).toNat = l.val) (hz : reservedZero .startLink r = true)
    (hst : (s.link l).state = .off) (hcfg : (s.link l).config = none) :
    s.startLink r = s.complete (s.linkDone .startLink r .notConfigured l) := by
  simp only [State.startLink, linkOf_eq _ l hl, Link.role, hcfg]
  exact (if_pos hz).trans (if_neg (not_not.mpr hst))

/-- Every check passes: the link starts in its role, and the report carries the frame counter that the start leaves. -/
theorem State.startLink_starts {cfg : LinkConfig} (hl : (byteAt r 16).toNat = l.val)
    (hz : reservedZero .startLink r = true) (hst : (s.link l).state = .off) (hcfg : (s.link l).config = some cfg) :
    s.startLink r = (s.setLink l ((s.link l).started cfg.role)).complete
      (commandDone .startLink (cmdTag r) .ok (byteAt r 16) ((s.link l).started cfg.role).frame) := by
  simp only [State.startLink, linkOf_eq _ l hl, Link.role, hcfg, State.linkDone]
  refine (if_pos hz).trans ((if_neg (not_not.mpr hst)).trans ?_)
  simp only [Option.map_some, State.setLink_link_same]

end

/-! ## The link after its start (R4, R12, R17) -/

theorem Link.started_roleIn (x : Link) :
    x.started .roleIn = { x with state := .hunting, frame := 0, missed := 0, event := none } := rfl

/-- The first frame starts at once, and the LOCKED event forms the record that the start has just cleared. -/
theorem Link.started_roleOut (x : Link) :
    x.started .roleOut = { x with
      state := .locked, frame := 1, missed := 0, bitPos := some 0, launched := 0, completed := 0,
      event := some { locked := true, lost := false, slip := false, slips := 0, losses := 0,
                      linkState := .locked, stamp := 1 } } := rfl

end Sys2Proof.Machine

/-! ## The obligations -/

namespace Sys2Proof.Proofs

open Sys2Proof.Machine

/-- Settles O4: each outcome of R3 has its lemma above, and each ends as a command that completes at its take. -/
theorem configureLinkChecksAndStores : Obligations.ConfigureLinkChecksAndStores := by
  intro s r h hk
  have hiff : reservedZero .configureLink r = true ↔ ReservedZero r [0, 4, 5, 6, 7, 16, 17, 18, 19, 20, 22, 23] :=
    reservedZero_bytes .configureLink r (by decide)
  rw [h.exec_configureLink hk]
  refine ⟨fun hn => next_of_complete h.running (State.configureLink_no_link hn), fun l hl => ⟨fun hst =>
    next_of_complete h.running (State.configureLink_active hl hst), fun hst hbad => ?refused, ?stored⟩⟩
  case refused =>
    refine next_of_complete h.running (State.configureLink_bad hl hst ?_)
    rintro ⟨⟨hslots, hwidth, hrole, hidle⟩, hzero⟩
    exact hbad ⟨hslots, hwidth, hrole, hidle, hiff.mp hzero⟩
  case stored =>
    rintro hst ⟨hslots, hwidth, hrole, hidle, hzero⟩
    exact next_of_complete h.running
      (State.configureLink_stores hl hst ⟨hslots, hwidth, hrole, hidle⟩ (hiff.mpr hzero))

/-- Settles O5: the refusals of R4 one by one, then the start in the role of the link's configuration. -/
theorem startLinkHuntsOrLocks : Obligations.StartLinkHuntsOrLocks := by
  intro s r h hk
  have hiff : reservedZero .startLink r = true ↔ ReservedZero r [0, 4, 5, 6, 7, 16] :=
    reservedZero_bytes .startLink r (by decide)
  rw [h.exec_startLink hk]
  refine ⟨fun hn => next_of_complete h.running (State.startLink_no_link hn), fun l hl => ⟨fun hbad =>
    next_of_complete h.running (State.startLink_bad hl (mt hiff.mp hbad)), fun hzero => ?_⟩⟩
  have hz := hiff.mpr hzero
  refine ⟨fun hst => next_of_complete h.running (State.startLink_active hl hz hst), fun hst hcfg =>
    next_of_complete h.running (State.startLink_unconfigured hl hz hst hcfg), fun cfg hst hcfg => ?_⟩
  have hstart := State.startLink_starts hl hz hst hcfg
  constructor
  case left =>
    intro hrole
    rw [hrole, Link.started_roleIn] at hstart
    exact next_of_complete h.running hstart
  case right =>
    intro hrole
    rw [hrole, Link.started_roleOut] at hstart
    exact next_of_complete h.running hstart

end Sys2Proof.Proofs
end

section
/-! SUPPORT. QUERY_CHANNEL (R60): what each check answers, the channel summary as a number, and the statement that these settle. -/

namespace Sys2Proof.Machine

theorem State.Taking.exec_queryChannel {s : State} {r : List Byte} (h : s.Taking r) (hk : byteAt r 0 = 0xC) :
    exec .queryChannel s = .next (s.queryChannel r) :=
  congrArg Host.Outcome.next (h.take .queryChannel State.queryChannel hk)

section
variable {s : State} {r : List Byte} {c : ChanId}

/-! ## QUERY_CHANNEL, check by check (R60) -/

theorem State.queryChannel_no_chan (hn : 64 ≤ (byteAt r 16).toNat) :
    s.queryChannel r = s.complete (chanDone .queryChannel r .badParam) := by
  simp only [State.queryChannel, chanOf_none _ hn]

theorem State.queryChannel_bad (hc : (byteAt r 16).toNat = c.val) (hz : ¬ reservedZero .queryChannel r = true) :
    s.queryChannel r = s.complete (chanDone .queryChannel r .badParam) := by
  simp only [State.queryChannel, chanOf_eq _ c hc]
  exact if_neg hz

theorem State.queryChannel_closed (hc : (byteAt r 16).toNat = c.val) (hz : reservedZero .queryChannel r = true)
    (hst : (s.chan c).state = .closed) :
    s.queryChannel r = s.complete (chanDone .queryChannel r .notOpen) := by
  simp only [State.queryChannel, chanOf_eq _ c hc]
  exact (if_pos hz).trans (if_pos hst)

/-- Every check passes: the part changes only by the completion of the command. -/
theorem State.queryChannel_reports (hc : (byteAt r 16).toNat = c.val) (hz : reservedZero .queryChannel r = true)
    (hst : (s.chan c).state ≠ .closed) : s.queryChannel r = s.complete (queryDone r (s.chan c)) := by
  simp only [State.queryChannel, chanOf_eq _ c hc]
  exact (if_pos hz).trans (if_neg hst)

end

/-! ## The channel summary as a number (spec/11) -/

/-- Bit fields side by side are a sum with weights: the field above counts in multiples of two to the width of the one below. -/
theorem toNat_append_eq_add {m n : Nat} (x : BitVec m) (y : BitVec n) : (x ++ y).toNat = x.toNat * 2 ^ n + y.toNat := by
  rw [BitVec.toNat_append, ← Nat.shiftLeft_add_eq_or_of_lt y.isLt, Nat.shiftLeft_eq]

/-- Where the three counts fit their fields, each of the six fields stands at its own bit position. -/
theorem Channel.summary_eq (ch : Channel) (hlanes : ch.cfg.lanes ≤ 8) (hgroups : ch.groups.length ≤ 32)
    (hlist : ch.list.length ≤ 3) :
    ch.summary = BitVec.ofNat 32 (ch.state.code.toNat + 2 ^ 3 * ch.causeCode.toNat + 2 ^ 5 * ch.cfg.dir.bit.toNat
      + 2 ^ 8 * ch.cfg.lanes + 2 ^ 16 * ch.groups.length + 2 ^ 24 * ch.list.length) := by
  have hlanesFit : ch.cfg.lanes % 2 ^ 4 = ch.cfg.lanes := Nat.mod_eq_of_lt (by omega)
  have hgroupsFit : ch.groups.length % 2 ^ 6 = ch.groups.length := Nat.mod_eq_of_lt (by omega)
  have hlistFit : ch.list.length % 2 ^ 2 = ch.list.length := Nat.mod_eq_of_lt (by omega)
  have hstate := ch.state.code.isLt
  have hcause := ch.causeCode.isLt
  have hdir := ch.cfg.dir.bit.isLt
  apply BitVec.eq_of_toNat_eq
  simp only [Channel.summary, toNat_append_eq_add, BitVec.toNat_ofNat, hlanesFit, hgroupsFit, hlistFit]
  omega

theorem Direction.bit_toNat (d : Direction) : d.bit.toNat = if d = .tx then 1 else 0 := by
  cases d <;> rfl

/-- The halt cause counts only while the channel is HALTED (R60). -/
theorem Channel.causeCode_toNat (ch : Channel) :
    ch.causeCode.toNat = match ch.state, ch.haltCause with
      | .halted, some .badDescriptor => 1
      | .halted, some .windowFault => 2
      | .halted, some .busError => 3
      | _, _ => 0 := by
  unfold Channel.causeCode
  rcases ch.haltCause with _ | why
  · cases ch.state <;> rfl
  · cases ch.state <;> cases why <;> rfl

end Sys2Proof.Machine

/-! ## The obligation -/

namespace Sys2Proof.Proofs

open Sys2Proof.Machine

/-- Settles O19: each check of R60 has its lemma above, and of the report only the summary has to be computed. -/
theorem queryChannelReportsAndChangesNothing : Obligations.QueryChannelReportsAndChangesNothing := by
  intro s r h hk
  have hiff : reservedZero .queryChannel r = true ↔ ReservedZero r [0, 4, 5, 6, 7, 16] :=
    reservedZero_bytes .queryChannel r (by decide)
  rw [h.exec_queryChannel hk]
  refine ⟨fun hn => next_of_complete h.running (State.queryChannel_no_chan hn), fun c hc => ⟨fun hbad =>
    next_of_complete h.running (State.queryChannel_bad hc (mt hiff.mp hbad)), fun hzero hst =>
    next_of_complete h.running (State.queryChannel_closed hc (hiff.mpr hzero) hst), ?reported⟩⟩
  case reported =>
    intro hzero hst hlanes hgroups hlist state cause tx
    have hstate : (s.chan c).state.code.toNat = state := by
      unfold state
      cases (s.chan c).state <;> rfl
    have hcause : (s.chan c).causeCode.toNat = cause := (s.chan c).causeCode_toNat
    have htx : (s.chan c).cfg.dir.bit.toNat = tx := Direction.bit_toNat _
    have hreport := State.queryChannel_reports hc (hiff.mpr hzero) hst
    rw [queryDone, Channel.summary_eq _ hlanes hgroups hlist, hstate, hcause, htx] at hreport
    exact next_of_complete h.running hreport

end Sys2Proof.Proofs
end

section
/-! SUPPORT. SET_COALESCING (R118): when the coalescer fires on what stands, what storing the thresholds leaves, what each check
answers, and the statement that these settle. -/

namespace Sys2Proof.Machine

/-! ## The change of the thresholds (R118) -/

/-- The two firing rows of the table of R118. -/
theorem Coalescer.firesAfterChange_iff (c : Coalescer) :
    c.firesAfterChange = true ↔
      c.count ≤ c.counter ∨ (0 < c.counter ∧ c.time ≠ 0 ∧ ∃ e, c.timer = some e ∧ c.time ≤ e) := by
  rcases htimer : c.timer with _ | e <;> simp [Coalescer.firesAfterChange, htimer, and_assoc]

section
variable {s : State} {count time : Nat}

theorem State.setThresholds_goes_on
    (h : ¬ ({ s.coal with count := count, time := time } : Coalescer).firesAfterChange = true) :
    s.setThresholds count time = { s with coal := { s.coal with count := count, time := time } } :=
  if_neg h

/-- The coalescer fires with the new thresholds in place: COMPLETION set, the counter 0, the timer stopped. -/
theorem State.setThresholds_fires
    (h : ({ s.coal with count := count, time := time } : Coalescer).firesAfterChange = true) :
    s.setThresholds count time = { s with
      coal := { count := count, time := time, counter := 0, timer := none }
      irqCause := { s.irqCause with completion := true } } :=
  if_pos h

end

/-! ## SET_COALESCING, check by check (R118) -/

theorem State.Taking.exec_setCoalescing {s : State} {r : List Byte} (h : s.Taking r) (hk : byteAt r 0 = 0xE) :
    exec .setCoalescing s = .next (s.setCoalescing r) :=
  congrArg Host.Outcome.next (h.take .setCoalescing State.setCoalescing hk)

section
variable {s : State} {r : List Byte}

theorem State.setCoalescing_bad
    (hbad : ¬ ((1 ≤ (u16At r 16).toNat ∧ (u16At r 16).toNat ≤ 255) ∧ reservedZero .setCoalescing r = true)) :
    s.setCoalescing r = s.complete (coalescingDone r .badParam) :=
  if_neg fun ⟨hlo, hhi, hzero⟩ => hbad ⟨⟨hlo, hhi⟩, hzero⟩

/-- Every check passes: the thresholds change, and the report carries the ones that stood before. -/
theorem State.setCoalescing_stores (hcount : 1 ≤ (u16At r 16).toNat ∧ (u16At r 16).toNat ≤ 255)
    (hzero : reservedZero .setCoalescing r = true) :
    s.setCoalescing r = (s.setThresholds (u16At r 16).toNat (u16At r 18).toNat).complete
      { coalescingDone r .ok with v0 := BitVec.ofNat 32 s.coal.count, v1 := BitVec.ofNat 32 s.coal.time } :=
  if_pos ⟨hcount.1, hcount.2, hzero⟩

end

end Sys2Proof.Machine

/-! ## The obligation -/

namespace Sys2Proof.Proofs

open Sys2Proof.Machine

/-- Settles O21: the refusal of R118, then the change of the thresholds with and without a firing; neither leaves RUNNING. -/
theorem setCoalescingStoresAndMayFire : Obligations.SetCoalescingStoresAndMayFire := by
  intro s r h hk n time good report fires
  have hzero : reservedZero .setCoalescing r = true ↔ ReservedZero r [0, 4, 5, 6, 7, 16, 17, 18, 19] :=
    reservedZero_bytes .setCoalescing r (by decide)
  have hfires : ({ s.coal with count := n, time := time } : Coalescer).firesAfterChange = true ↔ fires :=
    Coalescer.firesAfterChange_iff _
  have hstores (hgood : good) := State.setCoalescing_stores (s := s) hgood.1 (hzero.mpr hgood.2)
  rw [h.exec_setCoalescing hk]
  refine ⟨fun hbad => ?refused, fun hgood hwait => ?goesOn, fun hgood hfire => ?fired⟩
  case refused =>
    exact next_of_complete h.running (State.setCoalescing_bad fun ⟨hcount, hz⟩ => hbad ⟨hcount, hzero.mp hz⟩)
  case goesOn =>
    rw [hstores hgood, State.setThresholds_goes_on (mt hfires.mp hwait)]
    exact next_of_complete h.running rfl
  case fired =>
    rw [hstores hgood, State.setThresholds_fires (hfires.mpr hfire)]
    exact next_of_complete h.running rfl

end Sys2Proof.Proofs
end

section
/-! SUPPORT. SET_WINDOW (R141): what the reserved bits and the range check of a record say, what each check answers, and the
statement that these settle. The declarations are elaborated one after another, as in the tests: side by side their threads
exhaust the memory that the sandbox gives Lean. -/

set_option Elab.async false

namespace Sys2Proof.Machine

/-! ## The checks on a SET_WINDOW record (R141, R169) -/

/-- The bits of a byte from bit `k` up are zero exactly where its number is below the weight of bit `k`. -/
theorem highBits_eq_zero_iff (b : Byte) {k n : Nat} (h : k + n = 8) : b.extractLsb' k n = 0 ↔ b.toNat < 2 ^ k := by
  have hfits : b.toNat / 2 ^ k < 2 ^ n := by
    rw [Nat.div_lt_iff_lt_mul (by positivity), ← pow_add, Nat.add_comm, h]
    exact b.isLt
  rw [← BitVec.toNat_inj, BitVec.extractLsb'_toNat, Nat.shiftRight_eq_div_pow, Nat.mod_eq_of_lt hfits]
  exact Nat.div_eq_zero_iff_lt (by positivity)

/-- Check 2: SET_WINDOW is the one kind with reserved bits inside listed bytes, those of the enable byte and the permissions. -/
theorem reservedZero_setWindow_iff (r : List Byte) :
    reservedZero .setWindow r = true ↔
      ReservedZero r ([0, 4, 5, 6, 7] ++ CmdKind.setWindow.params) ∧ (byteAt r 17).toNat < 2 ∧ (byteAt r 18).toNat < 4 := by
  have henable : (byteAt r 17).extractLsb' 1 7 = 0 ↔ (byteAt r 17).toNat < 2 := highBits_eq_zero_iff _ rfl
  have hpermissions : (byteAt r 18).extractLsb' 2 6 = 0 ↔ (byteAt r 18).toNat < 4 := highBits_eq_zero_iff _ rfl
  rw [reservedZero_iff, CmdKind.reservedBitsZero, Bool.and_eq_true, beq_iff_eq, beq_iff_eq, henable, hpermissions]

/-- Check 4: whole pages, the limit at the last byte of one. -/
theorem windowRangeOk_iff (base limit : U64) :
    windowRangeOk base limit = true ↔
      base.toNat % 4096 = 0 ∧ limit.toNat % 4096 = 4095 ∧ base.toNat ≤ limit.toNat := by
  have hlast : (limit.toNat + 1) % 4096 = 0 ↔ limit.toNat % 4096 = 4095 := by omega
  simp only [windowRangeOk, Bool.and_eq_true, beq_iff_eq, decide_eq_true_eq, hlast, and_assoc]

/-! ## SET_WINDOW, check by check (R141) -/

theorem State.Taking.exec_setWindow {s : State} {r : List Byte} (h : s.Taking r) (hk : byteAt r 0 = 0xD) :
    exec .setWindow s = .next (s.setWindowCommand r) :=
  congrArg Host.Outcome.next (h.take .setWindow State.setWindowCommand hk)

section
variable {s : State} {r : List Byte} {w : WinId}

theorem State.setWindowCommand_no_window (hn : 8 ≤ (byteAt r 16).toNat) :
    s.setWindowCommand r = s.complete (windowDone r .badParam) := by
  simp only [State.setWindowCommand, winOf_none _ hn]

theorem State.setWindowCommand_reserved (hw : (byteAt r 16).toNat = w.val) (hz : ¬ reservedZero .setWindow r = true) :
    s.setWindowCommand r = s.complete (windowDone r .badParam) := by
  simp only [State.setWindowCommand, winOf_eq _ w hw]
  exact if_pos (by simpa using hz)

theorem State.setWindowCommand_inUse (hw : (byteAt r 16).toNat = w.val) (hz : reservedZero .setWindow r = true)
    (huse : (s.window w).use ≠ 0) :
    s.setWindowCommand r =
      s.complete { windowDone r .inUse with v0 := BitVec.ofNat 32 (s.window w).use } := by
  simp only [State.setWindowCommand, winOf_eq _ w hw, hz]
  exact if_pos huse

theorem State.setWindowCommand_range (hw : (byteAt r 16).toNat = w.val) (hz : reservedZero .setWindow r = true)
    (huse : (s.window w).use = 0) (henable : enableBit r = true)
    (hrange : ¬ windowRangeOk (u64At r 24) (u64At r 32) = true) :
    s.setWindowCommand r = s.complete (windowDone r .badParam) := by
  simp only [State.setWindowCommand, winOf_eq _ w hw, hz]
  exact (if_neg (not_not.mpr huse)).trans (if_pos ⟨henable, by simpa using hrange⟩)

/-- Every check passes: the base and limit are looked at only where the window is to be enabled. -/
theorem State.setWindowCommand_sets (hw : (byteAt r 16).toNat = w.val) (hz : reservedZero .setWindow r = true)
    (huse : (s.window w).use = 0)
    (hrange : enableBit r = true → windowRangeOk (u64At r 24) (u64At r 32) = true) :
    s.setWindowCommand r = (s.setWindow w ((s.window w).setTo r)).complete (windowDone r .ok) := by
  simp only [State.setWindowCommand, winOf_eq _ w hw, hz]
  refine (if_neg (not_not.mpr huse)).trans (if_neg ?_)
  rintro ⟨henable, hbad⟩
  simp [hrange henable] at hbad

end

/-! ## The window after the change (R141) -/

theorem Window.setTo_enabled {w : Window} {r : List Byte} (henable : enableBit r = true) :
    w.setTo r = { enabled := true, base := u64At r 24, limit := u64At r 32, read := (byteAt r 18).getLsbD 0,
                  write := (byteAt r 18).getLsbD 1, use := w.use } :=
  if_pos henable

theorem Window.setTo_disabled {w : Window} {r : List Byte} (henable : ¬ enableBit r = true) :
    w.setTo r = { Window.reset with use := w.use } :=
  if_neg henable

end Sys2Proof.Machine

/-! ## The obligation -/

namespace Sys2Proof.Proofs

open Sys2Proof.Machine

/-- Settles O20: the refusals of R141 one by one, then the two changes of a window that nothing refers to. -/
theorem setWindowInOrder : Obligations.SetWindowInOrder := by
  intro s r h hk report
  rw [h.exec_setWindow hk]
  refine ⟨fun hn => next_of_complete h.running (State.setWindowCommand_no_window hn), fun w hw => ?_⟩
  intro clean base limit pages
  have hclean : reservedZero .setWindow r = true ↔ clean := reservedZero_setWindow_iff r
  have hpages : windowRangeOk base limit = true ↔ pages := windowRangeOk_iff base limit
  have hset : byteAt r 17 = 1 → enableBit r = true := fun hon => by simp [enableBit, hon]
  have hclear : byteAt r 17 = 0 → ¬ enableBit r = true := fun hoff => by simp [enableBit, hoff]
  refine ⟨fun hbad => ?reserved, fun hok huse => ?inUse, fun hok huse hon hbad => ?range,
    fun hok huse hon hgood => ?enabled, fun hok huse hoff => ?disabled⟩
  case reserved =>
    exact next_of_complete h.running (State.setWindowCommand_reserved hw (mt hclean.mp hbad))
  case inUse =>
    exact next_of_complete h.running (State.setWindowCommand_inUse hw (hclean.mpr hok) huse)
  case range =>
    exact next_of_complete h.running
      (State.setWindowCommand_range hw (hclean.mpr hok) huse (hset hon) (mt hpages.mp hbad))
  case enabled =>
    rw [State.setWindowCommand_sets hw (hclean.mpr hok) huse fun _ => hpages.mpr hgood,
      Window.setTo_enabled (hset hon), huse]
    exact next_of_complete h.running rfl
  case disabled =>
    rw [State.setWindowCommand_sets hw (hclean.mpr hok) huse fun hon => absurd hon (hclear hoff),
      Window.setTo_disabled (hclear hoff), huse]
    exact next_of_complete h.running rfl

end Sys2Proof.Proofs
end

section
/-! SUPPORT. What the handling of one channel does to the windows its records hold (R138, R139) and to the room of its FIFO and its
buffer list (R63, R92): each function of Machine/Records, Fifo and Mover once. -/

set_option Elab.async false

namespace Sys2Proof.Machine

/-! ## What a channel holds -/

/-- The references to a window that a channel holds: its ring's while it is not CLOSED, and one for each record (R138). -/
def Channel.refs (ch : Channel) (w : WinId) : Nat :=
  (if ch.state ≠ .closed ∧ ch.ringWindow = some w then 1 else 0) + (ch.list.filter fun r => r.window == some w).length

/-- The clauses of `State.UseLaw` about one channel. -/
structure Channel.Lawful (ch : Channel) : Prop where
  retiring : ∀ r ∈ ch.list, r.state = .retiring → r.window = none
  closed : ch.state = .closed → ch.list = [] ∧ ch.descRead = .none

/-- The clause of `State.RoomLaw` about one channel. -/
def Channel.Room (ch : Channel) : Prop :=
  ch.groups.length * ch.cfg.lanes ≤ fifoSamples
    ∧ ch.list.length + (if ch.descRead = .outstanding then 1 else 0) ≤ heldRecords

/-- From `a` to `b` the channel stays lawful, and the references it no longer holds are those of `ws`. -/
structure Channel.Conserves (a b : Channel) (ws : List WinId) : Prop where
  lawful : a.Lawful → b.Lawful
  refs : a.Lawful → ∀ w, b.refs w + ws.count w = a.refs w

/-- From `a` to `b` neither the FIFO nor the buffer list grows, a record on its way counted as one of the list. -/
structure Channel.NoMore (a b : Channel) : Prop where
  config : b.config = a.config
  groups : b.groups.length ≤ a.groups.length
  list : b.list.length + (if b.descRead = .outstanding then 1 else 0)
    ≤ a.list.length + (if a.descRead = .outstanding then 1 else 0)

/-- The record keeps its window, and does not begin to retire. -/
structure BufferRecord.Stays (a b : BufferRecord) : Prop where
  window : b.window = a.window
  retiring : b.state = .retiring → a.state = .retiring

theorem Channel.NoMore.refl (a : Channel) : a.NoMore a := ⟨rfl, le_rfl, le_rfl⟩

theorem Channel.NoMore.trans {a b c : Channel} (h : a.NoMore b) (k : b.NoMore c) : a.NoMore c :=
  ⟨k.config.trans h.config, k.groups.trans h.groups, k.list.trans h.list⟩

theorem Channel.NoMore.room {a b : Channel} (h : a.NoMore b) (hr : a.Room) : b.Room := by
  obtain ⟨hg, hl⟩ := hr
  refine ⟨le_trans ?_ hg, h.list.trans hl⟩
  simp only [Channel.cfg, h.config]
  exact Nat.mul_le_mul_right _ h.groups

theorem Channel.Conserves.refl (a : Channel) : a.Conserves a [] := ⟨id, fun _ _ => rfl⟩

theorem Channel.Conserves.trans {a b c : Channel} {ws vs : List WinId} (h : a.Conserves b ws) (k : b.Conserves c vs) :
    a.Conserves c (ws ++ vs) := by
  refine ⟨k.lawful ∘ h.lawful, fun ha w => ?_⟩
  have := h.refs ha w
  have := k.refs (h.lawful ha) w
  rw [List.count_append]
  omega

theorem Channel.Conserves.before {a b c : Channel} {ws : List WinId} (h : a.Conserves b []) (k : b.Conserves c ws) :
    a.Conserves c ws := h.trans k

theorem Channel.Conserves.after {a b c : Channel} {ws : List WinId} (h : a.Conserves b ws) (k : b.Conserves c []) :
    a.Conserves c ws := by
  simpa using h.trans k

theorem Channel.Conserves.behind {a b c : Channel} {ws : List WinId} (k : b.Conserves c ws) (h : a.Conserves b []) :
    a.Conserves c ws := h.trans k

theorem Channel.NoMore.behind {a b c : Channel} (k : b.NoMore c) (h : a.NoMore b) : a.NoMore c := h.trans k

theorem BufferRecord.Stays.refl (r : BufferRecord) : r.Stays r := ⟨rfl, id⟩

theorem BufferRecord.Stays.trans {a b c : BufferRecord} (h : a.Stays b) (k : b.Stays c) : a.Stays c :=
  ⟨k.window.trans h.window, h.retiring ∘ k.retiring⟩

/-- A channel whose list holds anything is not CLOSED. -/
theorem Channel.Lawful.open_of_mem {ch : Channel} (h : ch.Lawful) {r : BufferRecord} (hr : r ∈ ch.list) :
    ch.state ≠ .closed := by
  intro hc
  rw [(h.closed hc).1] at hr
  cases hr

theorem Channel.Lawful.current_none {ch : Channel} (h : ch.Lawful) (hc : ch.state = .closed) : ch.current? = none := by
  rw [Channel.current?, (h.closed hc).1]; rfl

theorem filter_window_map (f : BufferRecord → BufferRecord) (l : List BufferRecord) (h : ∀ r ∈ l, (f r).window = r.window)
    (w : WinId) : ((l.map f).filter fun r => r.window == some w).length = (l.filter fun r => r.window == some w).length := by
  rw [List.filter_map, List.length_map]
  congr 1
  refine List.filter_congr fun r hr => ?_
  simp [h r hr]

/-- The records that hold a window, as the count of the window among those held. -/
theorem held_eq_count (l : List BufferRecord) (w : WinId) :
    (l.filter fun r => r.window == some w).length = (l.filterMap BufferRecord.window).count w := by
  induction l with
  | nil => rfl
  | cons r rs ih =>
    cases hw : r.window with
    | none => simpa [List.filter_cons, hw] using ih
    | some v => by_cases h : v = w <;> simp [hw, h, ih]

/-- A change of the records one by one that keeps their windows: `b` may differ from `a` in everything that holds no window. -/
theorem Channel.Conserves.of_records {a b : Channel} (f : BufferRecord → BufferRecord) (hl : b.list = a.list.map f)
    (hf : ∀ r ∈ a.list, r.Stays (f r)) (hr : b.ringWindow = a.ringWindow)
    (hs : a.Lawful → (b.state = .closed ↔ a.state = .closed)) (hd : a.descRead = .none → b.descRead = .none) :
    a.Conserves b [] := by
  refine ⟨fun ha => ⟨fun r hm hst => ?_, fun hc => ?_⟩, fun ha w => ?_⟩
  · rw [hl] at hm
    obtain ⟨x, hx, rfl⟩ := List.mem_map.mp hm
    rw [(hf x hx).window]
    exact ha.retiring x hx ((hf x hx).retiring hst)
  · obtain ⟨h1, h2⟩ := ha.closed ((hs ha).mp hc)
    exact ⟨by rw [hl, h1]; rfl, hd h2⟩
  · simp only [Channel.refs, hl, filter_window_map f a.list (fun r h => (hf r h).window), hr, ne_eq, hs ha]
    rfl

theorem Channel.Conserves.of_same {a b : Channel} (hl : b.list = a.list) (hr : b.ringWindow = a.ringWindow)
    (hs : b.state = a.state) (hd : a.descRead = .none → b.descRead = .none) : a.Conserves b [] :=
  .of_records id (by simp [hl]) (fun r _ => .refl r) hr (fun _ => by rw [hs]) hd

/-! ## Changes of records -/

section
variable (r : BufferRecord) (n : Nat) (f : Pass → Pass) (st : Status)

theorem BufferRecord.mapPass_stays : r.Stays (r.mapPass n f) := by
  unfold BufferRecord.mapPass
  split <;> exact ⟨rfl, id⟩

theorem BufferRecord.setFinal_stays : r.Stays (r.setFinal st) := ⟨rfl, id⟩

theorem BufferRecord.fold_stays : r.Stays r.fold := ⟨rfl, id⟩

theorem BufferRecord.endWith_stays : r.Stays (r.endWith st) := ⟨rfl, fun h => by cases h⟩

theorem BufferRecord.failed_stays : r.Stays r.failed := by
  unfold BufferRecord.failed
  split <;> exact ⟨rfl, id⟩

theorem BufferRecord.underrun_stays : r.Stays r.underrun := by
  unfold BufferRecord.underrun
  split <;> exact ⟨rfl, id⟩

theorem BufferRecord.Stays.ite {r a b : BufferRecord} {p : Prop} [Decidable p] (ha : p → r.Stays a) (hb : ¬ p → r.Stays b) :
    r.Stays (if p then a else b) := by
  split
  · next h => exact ha h
  · next h => exact hb h

end

section
variable (ch : Channel) (f : BufferRecord → BufferRecord)

theorem Channel.mapRecords_conserves (h : ∀ r : BufferRecord, r.Stays (f r)) : ch.Conserves (ch.mapRecords f) [] :=
  .of_records f rfl (fun r _ => h r) rfl (fun _ => Iff.rfl) id

theorem Channel.mapRecords_noMore : ch.NoMore (ch.mapRecords f) :=
  ⟨rfl, le_rfl, Nat.add_le_add_right (le_of_eq (List.length_map _)) _⟩

theorem Channel.mapRecord_conserves (ring : U16) (h : ∀ r : BufferRecord, r.Stays (f r)) : ch.Conserves (ch.mapRecord ring f) [] :=
  ch.mapRecords_conserves _ fun r => .ite (fun _ => h r) fun _ => .refl r

theorem Channel.mapRecord_noMore (ring : U16) : ch.NoMore (ch.mapRecord ring f) := ch.mapRecords_noMore _

theorem Channel.mapCurrent_conserves (g : Pass → Pass) : ch.Conserves (ch.mapCurrent g) [] :=
  ch.mapRecords_conserves _ fun r => .ite (fun _ => ⟨rfl, id⟩) fun _ => .refl r

theorem Channel.mapCurrent_noMore (g : Pass → Pass) : ch.NoMore (ch.mapCurrent g) := ch.mapRecords_noMore _

theorem Channel.mapPass_conserves (ring : U16) (n : Nat) (g : Pass → Pass) : ch.Conserves (ch.mapPass ring n g) [] :=
  ch.mapRecord_conserves _ ring fun r => r.mapPass_stays n g

theorem Channel.mapSource_conserves (src : Option Source) (g : Pass → Pass) : ch.Conserves (ch.mapSource src g) [] := by
  cases src with
  | none => exact .refl _
  | some x => exact ch.mapPass_conserves _ _ _

theorem Channel.mapSource_noMore (src : Option Source) (g : Pass → Pass) : ch.NoMore (ch.mapSource src g) := by
  cases src with
  | none => exact .refl _
  | some x => exact ch.mapRecords_noMore _

theorem Channel.mapSource_groups (src : Option Source) (g : Pass → Pass) : (ch.mapSource src g).groups = ch.groups := by
  cases src <;> rfl

theorem Channel.mapSource_requests (src : Option Source) (g : Pass → Pass) : (ch.mapSource src g).requests = ch.requests := by
  cases src <;> rfl

end

/-! ## Ends of requests and of the FIFO -/

theorem Channel.endRequest_conserves (ch : Channel) (q : DataRequest) : ch.Conserves (ch.endRequest q) [] := by
  unfold Channel.endRequest
  simp only []
  split
  · exact .of_same rfl rfl rfl id
  · split
    · exact .of_same rfl rfl rfl id
    · exact .of_records _ rfl (fun r _ => .ite (fun _ => r.mapPass_stays _ _) fun _ => .refl r) rfl (fun _ => Iff.rfl) id

theorem Channel.endRequest_noMore (ch : Channel) (q : DataRequest) : ch.NoMore (ch.endRequest q) := by
  unfold Channel.endRequest
  simp only []
  split
  · exact ⟨rfl, le_rfl, le_rfl⟩
  · split
    · exact ⟨rfl, le_rfl, le_rfl⟩
    · exact ⟨rfl, le_rfl, by simp [Channel.mapPass, Channel.mapRecord, Channel.mapRecords]⟩

theorem Channel.reap_conserves (ch : Channel) : ch.Conserves ch.reap [] := by
  unfold Channel.reap
  generalize ch.requests = qs
  induction qs generalizing ch with
  | nil => exact .refl _
  | cons q qs ih =>
    rw [List.foldl_cons]
    split
    · exact (ch.endRequest_conserves q).before (ih _)
    · exact ih _

theorem Channel.reap_noMore (ch : Channel) : ch.NoMore ch.reap := by
  unfold Channel.reap
  generalize ch.requests = qs
  induction qs generalizing ch with
  | nil => exact .refl _
  | cons q qs ih =>
    rw [List.foldl_cons]
    split
    · exact (ch.endRequest_noMore q).trans (ih _)
    · exact ih _

theorem Channel.absorbAll_conserves (ch : Channel) : ch.Conserves ch.absorbAll [] :=
  .of_same rfl rfl rfl fun h => by simp [Channel.absorbAll, h]

theorem Channel.absorbAll_noMore (ch : Channel) : ch.NoMore ch.absorbAll := by
  refine ⟨rfl, le_rfl, ?_⟩
  cases h : ch.descRead <;> simp [Channel.absorbAll, h]

/-- Marking the groups finished for their sources changes passes alone. -/
theorem Channel.finishGroups_spec (gs : List Group) (ch : Channel) :
    ch.Conserves (gs.foldl (fun c g => c.mapSource g.source Pass.finishOne) ch) []
      ∧ ch.NoMore (gs.foldl (fun c g => c.mapSource g.source Pass.finishOne) ch) := by
  induction gs generalizing ch with
  | nil => exact ⟨.refl _, .refl _⟩
  | cons g gs ih =>
    obtain ⟨h, k⟩ := ih (ch.mapSource g.source Pass.finishOne)
    exact ⟨(ch.mapSource_conserves _ _).before h, (ch.mapSource_noMore _ _).trans k⟩

theorem Channel.discard_conserves (ch : Channel) (b : Bool) : ch.Conserves (ch.discard b) [] := by
  unfold Channel.discard
  simp only []
  split
  · exact .of_same rfl rfl rfl id
  · exact (Channel.finishGroups_spec _ _).1.before (.of_same rfl rfl rfl id)

theorem Channel.discard_noMore (ch : Channel) (b : Bool) : ch.NoMore (ch.discard b) := by
  unfold Channel.discard
  simp only []
  split
  · exact ⟨rfl, Nat.zero_le _, le_rfl⟩
  · obtain ⟨_, k⟩ := Channel.finishGroups_spec ch.groups ch
    exact ⟨k.config, Nat.zero_le _, k.list⟩

/-! ## Halts and releases -/

/-- A halt keeps an open channel open. -/
theorem Channel.halt_conserves (ch : Channel) (cause : HaltCause) (ho : ch.Lawful → ch.state ≠ .closed) :
    ch.Conserves (ch.halt cause) [] := by
  have h := (ch.discard_conserves true).before (ch.discard true).absorbAll_conserves
  have hs : (ch.discard true).absorbAll.state = ch.state := (ch.discard_kept true).state
  refine ⟨fun ha => ⟨(h.lawful ha).retiring, fun hc => by cases hc⟩, fun ha w => ?_⟩
  have hopen : ((ch.discard true).absorbAll.state ≠ .closed) := hs ▸ ho ha
  rw [← h.refs ha w]
  simp only [Channel.refs, ne_eq, hopen, Channel.halt, reduceCtorEq]

theorem Channel.halt_noMore (ch : Channel) (cause : HaltCause) : ch.NoMore (ch.halt cause) := by
  have h := (ch.discard_noMore true).trans (ch.discard true).absorbAll_noMore
  exact ⟨h.config, h.groups, h.list⟩

/-- The releases of R49 and R99 give back what the released records held. -/
theorem Channel.release_conserves (ch : Channel) : ch.Conserves ch.release.1 ch.release.2 := by
  refine ⟨fun ha => ⟨fun r hr => ha.retiring r (List.mem_filter.mp hr).1, fun hc => ?_⟩, fun ha w => ?_⟩
  · obtain ⟨h1, h2⟩ := ha.closed hc
    exact ⟨by simp [Channel.release, h1], h2⟩
  · have hperm := ((List.filter_append_perm BufferRecord.untouched ch.list).filterMap BufferRecord.window).count_eq w
    rw [List.filterMap_append, List.count_append] at hperm
    simp only [Channel.refs, held_eq_count]
    rw [Nat.add_assoc]
    exact congrArg₂ (· + ·) rfl ((Nat.add_comm _ _).trans hperm)

theorem Channel.release_noMore (ch : Channel) : ch.NoMore ch.release.1 :=
  ⟨rfl, le_rfl, Nat.add_le_add_right (List.length_filter_le _ _) _⟩

theorem Channel.poisonHalt_conserves (ch : Channel) (why : HaltCause) (ho : ch.Lawful → ch.state ≠ .closed) :
    ch.Conserves (ch.poisonHalt why) [] := by
  refine (ch.halt_conserves why ho).before (Channel.mapRecords_conserves _ _ fun r => ?_)
  split
  · next h => exact ⟨rfl, id⟩
  · exact .ite (fun _ => r.endWith_stays _) fun _ => .refl r
  · exact .refl r

theorem Channel.poisonHalt_noMore (ch : Channel) (why : HaltCause) : ch.NoMore (ch.poisonHalt why) :=
  (ch.halt_noMore why).trans (Channel.mapRecords_noMore _ _)

theorem Channel.promote_conserves (ch : Channel) (ho : ch.Lawful → ch.state ≠ .closed) : ch.Conserves ch.promote [] := by
  unfold Channel.promote
  split
  · exact .of_records id (by simp) (fun r _ => .refl r) rfl (fun ha => by simp [ho ha]) id
  · split
    · exact ch.poisonHalt_conserves _ ho
    · refine .of_records _ rfl (fun r _ => ?_) rfl (fun ha => by simp [ho ha]) id
      exact .ite (fun _ => ⟨rfl, fun h => by cases h⟩) fun _ => .refl r

theorem Channel.promote_noMore (ch : Channel) : ch.NoMore ch.promote := by
  unfold Channel.promote
  split
  · exact ⟨rfl, le_rfl, le_rfl⟩
  · split
    · exact ch.poisonHalt_noMore _
    · exact ⟨rfl, le_rfl, by simp [Channel.mapRecord, Channel.mapRecords]⟩

theorem Channel.dataHalt_conserves (ch : Channel) (ring : U16) (ho : ch.Lawful → ch.state ≠ .closed) :
    ch.Conserves (ch.dataHalt ring).1 (ch.dataHalt ring).2 := by
  refine (ch.halt_conserves .busError ho).before (Channel.Conserves.before ?_ (Channel.release_conserves _))
  exact Channel.mapRecords_conserves _ _ fun r => .ite (fun _ => r.endWith_stays _) fun _ => .refl r

theorem Channel.dataHalt_noMore (ch : Channel) (ring : U16) : ch.NoMore (ch.dataHalt ring).1 :=
  (ch.halt_noMore .busError).trans ((Channel.mapRecords_noMore _ _).trans (Channel.release_noMore _))

/-! ## The end of a pass -/

theorem Channel.drain_conserves (ch : Channel) : ch.Conserves ch.drain [] :=
  ch.mapRecords_conserves _ fun r => .ite (fun _ => ⟨rfl, fun h => by cases h⟩) fun _ => .refl r

theorem Channel.passEnd_conserves (ch : Channel) : ch.Conserves ch.passEnd [] := by
  unfold Channel.passEnd
  split
  · exact .refl _
  · next r hr =>
    have ho : ch.Lawful → ch.state ≠ .closed := fun ha => ha.open_of_mem (List.mem_of_find?_eq_some hr)
    split
    · exact .refl _
    · split
      · exact ch.drain_conserves.before (Channel.discard_conserves _ _)
      · split
        · refine ⟨fun ha => (ch.drain.promote_conserves fun _ => ho ha).lawful (ch.drain_conserves.lawful ha), fun ha w => ?_⟩
          exact (ch.drain_conserves.before (ch.drain.promote_conserves fun _ => ho ha)).refs ha w
        · split
          · exact .refl _
          · exact ch.mapRecords_conserves _ fun r => .ite (fun _ => ⟨rfl, id⟩) fun _ => .refl r

theorem Channel.passEnd_noMore (ch : Channel) : ch.NoMore ch.passEnd := by
  unfold Channel.passEnd
  split
  · exact .refl _
  · split
    · exact .refl _
    · split
      · exact (ch.mapRecords_noMore _).trans (Channel.discard_noMore _ _)
      · split
        · exact (ch.mapRecords_noMore _).trans (Channel.promote_noMore _)
        · split
          · exact .refl _
          · exact ch.mapRecords_noMore _

end Sys2Proof.Machine
end

section
/-! SUPPORT. The same for the staging FIFO at the link, the Stream Mover and the Descriptor Unit, the close, and the settling that
ends every change of a channel. -/

set_option Elab.async false

namespace Sys2Proof.Machine

/-! ## The staging FIFO at the link (R62 to R70) -/

/-- A change at the link: it conserves what the channel holds and leaves the requests in flight as they are. -/
structure Channel.AtLink (a b : Channel) : Prop where
  conserves : a.Conserves b []
  requests : b.requests = a.requests

theorem Channel.AtLink.refl (a : Channel) : a.AtLink a := ⟨.refl a, rfl⟩

theorem Channel.AtLink.trans {a b c : Channel} (h : a.AtLink b) (k : b.AtLink c) : a.AtLink c :=
  ⟨h.conserves.before k.conserves, k.requests.trans h.requests⟩

theorem Channel.AtLink.behind {a b c : Channel} (k : b.AtLink c) (h : a.AtLink b) : a.AtLink c := h.trans k

section
variable (ch : Channel)

theorem Channel.mapCurrent_atLink (f : Pass → Pass) : ch.AtLink (ch.mapCurrent f) := ⟨ch.mapCurrent_conserves f, rfl⟩

theorem Channel.mapSource_atLink (src : Option Source) (f : Pass → Pass) : ch.AtLink (ch.mapSource src f) :=
  ⟨ch.mapSource_conserves src f, ch.mapSource_requests src f⟩

theorem Channel.mapPass_atLink (ring : U16) (n : Nat) (f : Pass → Pass) : ch.AtLink (ch.mapPass ring n f) :=
  ⟨ch.mapPass_conserves ring n f, rfl⟩

theorem Channel.AtLink.of_same {a b : Channel} (hl : b.list = a.list) (hr : b.ringWindow = a.ringWindow)
    (hs : b.state = a.state) (hd : b.descRead = a.descRead) (hq : b.requests = a.requests) : a.AtLink b :=
  ⟨.of_same hl hr hs fun h => hd.trans h, hq⟩

theorem Channel.cutShort_atLink : ch.AtLink ch.cutShort := by
  unfold Channel.cutShort
  simp only []
  split
  · split
    · split
      · exact (Channel.mapCurrent_atLink _ _).behind (.of_same rfl rfl rfl rfl rfl)
      · exact .of_same rfl rfl rfl rfl rfl
    · exact .of_same rfl rfl rfl rfl rfl
  · split
    · exact (Channel.mapSource_atLink _ _ _).behind (.of_same rfl rfl rfl rfl rfl)
    · exact .of_same rfl rfl rfl rfl rfl

theorem Channel.cutShort_noMore : ch.NoMore ch.cutShort := by
  unfold Channel.cutShort
  simp only []
  split
  · split
    · split
      · exact (Channel.mapCurrent_noMore _ _).behind ⟨rfl, by simp, le_rfl⟩
      · exact ⟨rfl, by simp, le_rfl⟩
    · exact ⟨rfl, le_rfl, le_rfl⟩
  · split
    · exact (Channel.mapSource_noMore _ _ _).behind ⟨rfl, by simp, le_rfl⟩
    · exact ⟨rfl, le_rfl, le_rfl⟩

theorem Channel.linkDown_atLink : ch.AtLink ch.linkDown := by
  refine ch.cutShort_atLink.trans ?_
  unfold Channel.linkDown
  simp only []
  split
  · exact .refl _
  · split
    · exact Channel.mapCurrent_atLink _ _
    · split
      · exact .of_same rfl rfl rfl rfl rfl
      · exact .refl _

theorem Channel.linkDown_noMore : ch.NoMore ch.linkDown := by
  refine ch.cutShort_noMore.trans ?_
  unfold Channel.linkDown
  simp only []
  split
  · exact .refl _
  · split
    · exact Channel.mapCurrent_noMore _ _
    · split
      · exact ⟨rfl, le_rfl, le_rfl⟩
      · exact .refl _

theorem Channel.receive_atLink (lane : Nat) (stamp : U32) (sample : U16) : ch.AtLink (ch.receive lane stamp sample) := by
  unfold Channel.receive Channel.takeFrame Channel.takeLane
  split
  · split
    · split
      · exact .of_same rfl rfl rfl rfl rfl
      · exact (Channel.mapCurrent_atLink _ _).behind (.of_same rfl rfl rfl rfl rfl)
    · exact .of_same rfl rfl rfl rfl rfl
  · split
    · split
      · exact .of_same rfl rfl rfl rfl rfl
      · exact .refl _
    · exact .refl _

/-- A frame is taken only where its samples fit (R63, R64). -/
theorem Channel.receive_room (lane : Nat) (stamp : U32) (sample : U16) (h : ch.Room) : (ch.receive lane stamp sample).Room := by
  unfold Channel.receive Channel.takeFrame Channel.takeLane
  split
  · split
    · split
      · next hroom =>
        refine ⟨?_, h.2⟩
        rw [List.length_append]
        exact of_decide_eq_true hroom
      · exact Channel.NoMore.room ((Channel.mapCurrent_noMore _ _).behind ⟨rfl, le_rfl, le_rfl⟩) h
    · exact h
  · split
    · next g hg =>
      split
      · refine ⟨?_, h.2⟩
        have hne : ch.groups ≠ [] := by
          rintro hnil
          simp [Channel.fillGroup, hnil] at hg
        have hlen : (ch.groups.dropLast ++ [g.fillLane ch.cfg.lanes lane sample]).length = ch.groups.length := by
          rw [List.length_append, List.length_dropLast, List.length_singleton]
          exact Nat.sub_add_cancel (List.length_pos_iff.mpr hne)
        exact hlen ▸ h.1
      · exact h
    · exact h

theorem Channel.depart_atLink : ch.AtLink ch.depart := by
  unfold Channel.depart
  split
  · split
    · exact (Channel.mapSource_atLink _ _ _).behind (.of_same rfl rfl rfl rfl rfl)
    · exact .refl _
  · exact .refl _

theorem Channel.depart_noMore : ch.NoMore ch.depart := by
  unfold Channel.depart
  split
  · split
    · exact (Channel.mapSource_noMore _ _ _).behind ⟨rfl, by simp, le_rfl⟩
    · exact .refl _
  · exact .refl _

theorem Channel.launch_atLink (g : Group) (frame : U32) : ch.AtLink (ch.launch g frame) := by
  unfold Channel.launch
  simp only []
  split
  · split
    · exact (Channel.mapPass_atLink _ _ _ _).behind (.of_same rfl rfl rfl rfl rfl)
    · exact .of_same rfl rfl rfl rfl rfl
  · exact .of_same rfl rfl rfl rfl rfl

theorem Channel.launch_noMore (g g' : Group) (frame : U32) (h : ch.groups.head? = some g') : ch.NoMore (ch.launch g frame) := by
  have hlen : ch.groups.tail.length + 1 ≤ ch.groups.length := by
    cases hg : ch.groups with
    | nil => simp [hg] at h
    | cons x xs => exact le_rfl
  have hgroups : ch.NoMore { ch with
      groups := { g with cond := .launching, stamp := some frame, nextLane := 1 } :: ch.groups.tail, idleFrame := none } :=
    ⟨rfl, hlen, le_rfl⟩
  unfold Channel.launch
  simp only []
  split
  · split
    · exact hgroups.trans (Channel.mapRecords_noMore _ _)
    · exact hgroups
  · exact hgroups

/-- An UNDERRUN marks one record and changes the others not at all. -/
theorem underrunOldest_forall₂ (l : List BufferRecord) : List.Forall₂ BufferRecord.Stays l (underrunOldest l) := by
  induction l with
  | nil => exact .nil
  | cons r rs ih =>
    unfold underrunOldest
    split
    · exact .cons r.underrun_stays (List.forall₂_same.mpr fun x _ => .refl x)
    · exact .cons (.refl r) ih

theorem windows_of_forall₂ {l l' : List BufferRecord} (h : List.Forall₂ BufferRecord.Stays l l') :
    l'.filterMap BufferRecord.window = l.filterMap BufferRecord.window := by
  induction h with
  | nil => rfl
  | cons hx _ ih => simp only [List.filterMap_cons, hx.window, ih]

/-- A change record by record that keeps the windows, by relation. -/
theorem Channel.Conserves.of_forall₂ {a b : Channel} (hl : List.Forall₂ BufferRecord.Stays a.list b.list)
    (hr : b.ringWindow = a.ringWindow) (hs : b.state = a.state) (hd : b.descRead = a.descRead) : a.Conserves b [] := by
  refine ⟨fun ha => ⟨fun r hm hst => ?_, fun hc => ?_⟩, fun ha w => ?_⟩
  · obtain ⟨i, hi, rfl⟩ := List.mem_iff_getElem.mp hm
    have hx := (List.forall₂_iff_get.mp hl).2 i (hl.length_eq ▸ hi) hi
    exact hx.window.trans (ha.retiring _ (List.getElem_mem _) (hx.retiring hst))
  · obtain ⟨h1, h2⟩ := ha.closed (hs ▸ hc)
    rw [h1] at hl
    exact ⟨List.forall₂_nil_left_iff.mp hl, hd.trans h2⟩
  · simp only [Channel.refs, held_eq_count, windows_of_forall₂ hl, hr, hs]
    rfl

theorem Channel.idle_atLink (frame : U32) : ch.AtLink (ch.idle frame) := by
  refine ⟨.of_forall₂ ?_ rfl rfl rfl, rfl⟩
  show List.Forall₂ _ ch.list (if ch.flowing then underrunOldest ch.list else ch.list)
  split
  · exact underrunOldest_forall₂ _
  · exact List.forall₂_same.mpr fun x _ => .refl x

theorem Channel.idle_noMore (frame : U32) : ch.NoMore (ch.idle frame) := by
  refine ⟨rfl, le_rfl, Nat.add_le_add_right (le_of_eq ?_) _⟩
  show (if ch.flowing then underrunOldest ch.list else ch.list).length = _
  split
  · exact (underrunOldest_forall₂ _).length_eq.symm
  · rfl

theorem Channel.transmit_atLink (lane : Nat) (frame : U32) : ch.AtLink (ch.transmit lane frame).1 := by
  unfold Channel.transmit
  split
  · refine ch.depart_atLink.trans ?_
    unfold Channel.launchFrame0
    split
    · split
      · exact Channel.launch_atLink _ _ _
      · exact Channel.idle_atLink _ _
    · exact Channel.idle_atLink _ _
  · unfold Channel.launchLane
    split
    · split
      · exact .of_same rfl rfl rfl rfl rfl
      · exact .refl _
    · exact .refl _

theorem Channel.transmit_noMore (lane : Nat) (frame : U32) : ch.NoMore (ch.transmit lane frame).1 := by
  unfold Channel.transmit
  split
  · refine ch.depart_noMore.trans ?_
    unfold Channel.launchFrame0
    split
    · next g hg =>
      split
      · exact Channel.launch_noMore _ _ g _ hg
      · exact Channel.idle_noMore _ _
    · exact Channel.idle_noMore _ _
  · unfold Channel.launchLane
    split
    · next g hg =>
      have hlen : ch.groups.tail.length + 1 ≤ ch.groups.length := by
        cases hgs : ch.groups with
        | nil => simp [Channel.launchGroup, hgs] at hg
        | cons x xs => exact le_rfl
      split
      · exact ⟨rfl, hlen, le_rfl⟩
      · exact .refl _
    · exact .refl _

/-! ## Responses, and what admission takes (R53, R76, R92, R96, R99) -/

theorem Channel.delivered_conserves : ch.Conserves ch.delivered [] := by
  unfold Channel.delivered
  split
  · exact .refl _
  · next r rest hl =>
    split
    · exact .of_forall₂ (by rw [hl]; exact .cons ⟨rfl, id⟩ (List.forall₂_same.mpr fun x _ => .refl x)) rfl rfl rfl
    · exact .of_forall₂ (by rw [hl]; exact .cons ⟨rfl, id⟩ (List.forall₂_same.mpr fun x _ => .refl x)) rfl rfl rfl

theorem Channel.delivered_noMore : ch.NoMore ch.delivered := by
  unfold Channel.delivered
  split
  · exact .refl _
  · next r rest hl => split <;> exact ⟨rfl, le_rfl, by simp [hl]⟩

theorem Channel.answer_conserves (id_ : Nat) (ok : Bool) : ch.Conserves (ch.answer id_ ok) [] := .of_same rfl rfl rfl id

theorem Channel.endFlush_conserves (q : DataRequest) : ch.Conserves (ch.endFlush q) [] := by
  unfold Channel.endFlush
  split
  · exact (ch.discard_conserves _).before (Channel.absorbAll_conserves _)
  · exact .refl _

theorem Channel.endFlush_noMore (q : DataRequest) : ch.NoMore (ch.endFlush q) := by
  unfold Channel.endFlush
  split
  · exact (ch.discard_noMore _).trans (Channel.absorbAll_noMore _)
  · exact .refl _

theorem Channel.open_of_not_absorbs {q : DataRequest} (h : ¬ ch.absorbs q = true) : ch.state ≠ .closed := by
  intro hc
  simp [Channel.absorbs, Channel.flowing, hc] at h

theorem Channel.dataError_conserves (q : DataRequest) : ch.Conserves (ch.dataError q).1 (ch.dataError q).2 := by
  unfold Channel.dataError
  split
  · exact (ch.mapRecord_conserves _ _ BufferRecord.failed_stays).before (Channel.endFlush_conserves _ _)
  · next h =>
    refine ch.reap_conserves.before (Channel.dataHalt_conserves _ _ fun _ => ?_)
    rw [ch.reap_spec.1.state]
    exact ch.open_of_not_absorbs h

theorem Channel.dataError_noMore (q : DataRequest) : ch.NoMore (ch.dataError q).1 := by
  unfold Channel.dataError
  split
  · exact (ch.mapRecords_noMore _).trans (Channel.endFlush_noMore _ _)
  · exact ch.reap_noMore.trans (Channel.dataHalt_noMore _ _)

theorem Channel.dataResponse_conserves (id_ : Nat) (ok : Bool) :
    ch.Conserves (ch.dataResponse id_ ok).1 (ch.dataResponse id_ ok).2 := by
  unfold Channel.dataResponse
  split
  · exact .refl _
  · next q _ =>
    cases ok
    · exact (ch.answer_conserves id_ false).before (Channel.dataError_conserves _ q)
    · exact ch.answer_conserves id_ true

theorem Channel.dataResponse_noMore (id_ : Nat) (ok : Bool) : ch.NoMore (ch.dataResponse id_ ok).1 := by
  unfold Channel.dataResponse
  split
  · exact .refl _
  · next q _ =>
    cases ok
    · exact (Channel.dataError_noMore (ch.answer id_ false) q).behind ⟨rfl, le_rfl, le_rfl⟩
    · exact ⟨rfl, le_rfl, le_rfl⟩

theorem Channel.readData_conserves (id_ lane : Nat) (bytes : List Byte) : ch.Conserves (ch.readData id_ lane bytes) [] := by
  unfold Channel.readData
  split
  · exact .refl _
  · split
    · exact .refl _
    · exact .of_same rfl rfl rfl id

theorem Channel.readData_noMore (id_ lane : Nat) (bytes : List Byte) : ch.NoMore (ch.readData id_ lane bytes) := by
  unfold Channel.readData
  split
  · exact .refl _
  · split
    · exact .refl _
    · exact ⟨rfl, by simp, le_rfl⟩

/-! ## Grants (R73, R75, R78, R83) -/

theorem Channel.dataGrant_conserves : ch.Conserves ch.dataGrant.1 [] := by
  unfold Channel.dataGrant
  split
  · exact .of_same rfl rfl rfl id
  · split
    · next r _ =>
      refine Channel.Conserves.before (Channel.Conserves.before (b := _) ?_ (Channel.mapCurrent_conserves _ _))
        (Channel.passEnd_conserves _)
      exact .of_same rfl rfl rfl id
    · exact .refl _

/-- A read is granted only where its frames fit (R74, R75). -/
theorem Channel.dataGrant_room {n : Nat} (hw : ch.wantsData n = true) (h : ch.Room) : ch.dataGrant.1.Room := by
  unfold Channel.dataGrant
  split
  · exact h
  · next hform =>
    split
    · next r hr =>
      refine Channel.NoMore.room (Channel.NoMore.trans (Channel.mapCurrent_noMore _ _) (Channel.passEnd_noMore _)) ⟨?_, h.2⟩
      simp only [Channel.cfg]
      cases hd : ch.cfg.dir with
      | rx =>
        simp only [Channel.cfg] at hd
        simp only [hd, List.length_drop]
        exact (Nat.mul_le_mul_right _ (Nat.sub_le _ _)).trans h.1
      | tx =>
        have hfree : ch.cfg.threshold ≤ fifoSamples / ch.cfg.lanes - ch.groups.length := by
          simp only [Channel.wantsData, hform, Channel.wantsFirst, hr, hd, Bool.and_eq_true, decide_eq_true_eq] at hw
          exact hw.2.2.2
        have hf : ch.grantFrames r ≤ ch.cfg.threshold := by
          simp only [Channel.grantFrames, hd]; exact Nat.min_le_left _ _
        have hlanes := Nat.div_mul_le_self fifoSamples ch.cfg.lanes
        simp only [Channel.cfg] at hd hf hfree hlanes
        simp only [hd, List.length_append, List.length_map, List.length_range]
        rcases Nat.le_total ch.groups.length (fifoSamples / (ch.config.getD ChanConfig.blank).lanes) with hle | hle
        · refine (Nat.mul_le_mul_right _ ?_).trans hlanes
          omega
        · have h0 : ch.grantFrames r = 0 := by omega
          rw [h0]
          exact h.1
    · exact h

theorem Channel.wantsDesc_room (hw : ch.wantsDesc = true) (h : ch.Room) : ({ ch with descRead := .outstanding } : Channel).Room := by
  simp only [Channel.wantsDesc, Bool.and_eq_true, decide_eq_true_eq] at hw
  exact ⟨h.1, hw.1.1.2⟩

theorem Channel.wantsDesc_open (hw : ch.wantsDesc = true) : ch.state ≠ .closed := by
  intro hc
  simp [Channel.wantsDesc, Channel.flowing, hc] at hw

theorem Channel.wantsDesc_conserves (hw : ch.wantsDesc = true) : ch.Conserves { ch with descRead := .outstanding } [] :=
  ⟨fun ha => ⟨ha.retiring, fun hc => absurd hc (ch.wantsDesc_open hw)⟩, fun _ _ => rfl⟩

/-! ## Descriptors (R84 to R87, R97, R98) -/

/-- From `a` to `b` the channel stays lawful, and the references it has gained are those of `ws`. -/
structure Channel.Gains (a b : Channel) (ws : List WinId) : Prop where
  lawful : a.Lawful → b.Lawful
  refs : a.Lawful → ∀ w, b.refs w = a.refs w + ws.count w

theorem Channel.Gains.conserves {a b : Channel} (h : a.Gains b []) : a.Conserves b [] :=
  ⟨h.lawful, fun ha w => (h.refs ha w).symm ▸ rfl⟩

theorem Channel.Gains.then {a b c : Channel} {ws : List WinId} (h : a.Gains b ws) (k : b.Conserves c []) : a.Gains c ws :=
  ⟨k.lawful ∘ h.lawful, fun ha w => (k.refs (h.lawful ha) w).trans (h.refs ha w)⟩

/-- A record that is not retiring joins the list of a channel that waits for a descriptor: the window that it holds is gained. -/
theorem Channel.append_gains (r : BufferRecord) (fetch : U16) (hd : ch.descRead = .outstanding) (hr : r.state ≠ .retiring) :
    ch.Gains { ch with descRead := .none, list := ch.list ++ [r], fetch := fetch } r.window.toList := by
  refine ⟨fun ha => ⟨fun x hx hst => ?_, fun hc => ?_⟩, fun ha w => ?_⟩
  · rcases List.mem_append.mp hx with hx | hx
    · exact ha.retiring x hx hst
    · rw [List.mem_singleton.mp hx] at hst
      exact absurd hst hr
  · have := (ha.closed hc).2
    rw [hd] at this
    cases this
  · have hone : (if (r.window == some w) = true then [r] else []).length = r.window.toList.count w := by
      cases hw : r.window with
      | none => rfl
      | some v => by_cases h : v = w <;> simp [h]
    simp only [Channel.refs, List.filter_append, List.length_append, Nat.add_assoc, List.filter_cons, List.filter_nil]
    exact congrArg₂ (· + ·) rfl (congrArg₂ (· + ·) rfl hone)

theorem Channel.open_of_outstanding (hd : ch.descRead = .outstanding) (h : ch.Lawful) : ch.state ≠ .closed := by
  intro hc
  rw [(h.closed hc).2] at hd
  cases hd

theorem Channel.join_gains (r : BufferRecord) (hd : ch.descRead = .outstanding) (hr : r.state ≠ .retiring) :
    ch.Gains (({ ch with descRead := .none } : Channel).join r) r.window.toList := by
  have happ := ch.append_gains r (ch.fetch + 1) hd hr
  unfold Channel.join
  simp only []
  split
  · exact happ
  · have ho := ch.open_of_outstanding hd
    refine ⟨fun ha => ?_, fun ha => ?_⟩
    · exact (happ.then (Channel.promote_conserves _ fun _ => ho ha)).lawful ha
    · exact (happ.then (Channel.promote_conserves _ fun _ => ho ha)).refs ha

theorem Channel.join_room (r : BufferRecord) (hd : ch.descRead = .outstanding) (h : ch.Room) :
    (({ ch with descRead := .none } : Channel).join r).Room := by
  have happ : ({ ch with descRead := .none, list := ch.list ++ [r], fetch := ch.fetch + 1 } : Channel).Room := by
    refine ⟨h.1, ?_⟩
    have := h.2
    simp only [hd, if_true] at this
    simpa using this
  unfold Channel.join
  simp only []
  split
  · exact happ
  · exact (Channel.promote_noMore _).room happ

theorem Descriptor.record_state (d : Descriptor) (ring : U16) (o : Except HaltCause WinId) :
    (d.record ring o).state ≠ .retiring := by
  cases o <;> exact fun h => by cases h

/-- The records as a failed descriptor read leaves them, before its own record joins (R98). -/
def BufferRecord.descHalted (r : BufferRecord) : BufferRecord :=
  match r.state with
  | .current => r.endWith .aborted
  | .draining => r.endWith .aborted
  | .next => r.setFinal .aborted
  | _ => r

theorem BufferRecord.descHalted_stays (r : BufferRecord) : r.Stays r.descHalted := by
  unfold BufferRecord.descHalted
  split
  · exact r.endWith_stays _
  · exact r.endWith_stays _
  · exact r.setFinal_stays _
  · exact .refl r

/-- The record that reports a failed descriptor read (R98). -/
def Channel.failedRead (ch : Channel) : BufferRecord :=
  { ring := ch.fetch, tag := 0, tagAbsent := true, notify := false, repeated := false, address := 0, frames := 0,
    window := none, state := .poisoned .busError, pass := Pass.fresh 0, ended := [], passCpls := [], folded := false,
    finalStatus := .busError, completion := none }

theorem Channel.descHalt_eq : ch.descHalt = { (ch.halt .busError).mapRecords BufferRecord.descHalted with
    list := ((ch.halt .busError).mapRecords BufferRecord.descHalted).list ++ [ch.failedRead], fetch := ch.fetch + 1 } := rfl

/-- A record without a window joins the list of an open channel. -/
theorem Channel.append_conserves (r : BufferRecord) (fetch : U16) (hw : r.window = none)
    (ho : ch.state ≠ .closed) : ch.Conserves { ch with list := ch.list ++ [r], fetch := fetch } [] := by
  refine ⟨fun ha => ⟨fun x hx hst => ?_, fun hc => absurd hc ho⟩, fun ha w => ?_⟩
  · rcases List.mem_append.mp hx with hx | hx
    · exact ha.retiring x hx hst
    · rwa [List.mem_singleton.mp hx]
  · simp [Channel.refs, hw]

theorem Channel.descHalt_conserves (hd : ch.descRead = .outstanding) :
    ch.Conserves ({ ch with descRead := .none } : Channel).descHalt [] := by
  have hopen := ch.open_of_outstanding hd
  have h (ha : ch.Lawful) : ch.Conserves ({ ch with descRead := .none } : Channel).descHalt [] := by
    rw [Channel.descHalt_eq]
    refine (Channel.append_conserves _ _ _ rfl fun hst => by cases hst).behind ?_
    refine (Channel.mapRecords_conserves _ _ BufferRecord.descHalted_stays).behind ?_
    exact (Channel.halt_conserves { ch with descRead := .none } _ fun _ => hopen ha).behind (.of_same rfl rfl rfl fun _ => rfl)
  exact ⟨fun ha => (h ha).lawful ha, fun ha => (h ha).refs ha⟩

/-- The record of a failed descriptor read takes the place of the one on its way (R83, R98). -/
theorem Channel.descHalt_room (hd : ch.descRead = .outstanding) (h : ch.Room) :
    ({ ch with descRead := .none } : Channel).descHalt.Room := by
  have hmore := (Channel.mapRecords_noMore _ BufferRecord.descHalted).behind
    (({ ch with descRead := .none } : Channel).halt_noMore .busError)
  have hlist := hmore.list
  have hkept : ({ ch with descRead := .none } : Channel).descHalt.descRead = .none := by
    show (({ ch with descRead := .none } : Channel).discard true).absorbAll.descRead = .none
    simp only [Channel.absorbAll, (({ ch with descRead := .none } : Channel).discard_kept true).descRead]
  have hheld := h.2
  rw [if_pos hd] at hheld
  refine ⟨(hmore.room ⟨h.1, ?_⟩).1, ?_⟩
  · exact (Nat.le_succ _).trans hheld
  · rw [hkept, Channel.descHalt_eq]
    simp only [List.length_append, List.length_singleton]
    simp only [reduceCtorEq, if_false, Nat.add_zero] at hlist ⊢
    omega

/-- A response that is dropped, or whose read is no longer waited for. -/
theorem Channel.descDropped_spec : ch.Conserves { ch with descRead := .none } [] ∧ ch.NoMore { ch with descRead := .none } :=
  ⟨.of_same rfl rfl rfl fun _ => rfl, rfl, le_rfl, by simp⟩

/-! ## Closes, posts and resumes (R49, R59, R81) -/

theorem Channel.endBegun_conserves (st : Status) : ch.Conserves (ch.endBegun st) [] :=
  ch.mapRecords_conserves _ fun r => .ite (fun _ => r.setFinal_stays _) fun _ => .refl r

theorem Channel.closeBy_conserves (mode : CloseMode) : ch.Conserves (ch.closeBy mode) [] := by
  unfold Channel.closeBy
  split
  · exact (ch.discard_conserves _).before (Channel.endBegun_conserves _ _)
  · exact (ch.discard_conserves _).before (Channel.endBegun_conserves _ _)
  · split
    · exact ch.discard_conserves _
    · exact (Channel.passEnd_conserves _).behind
        (Channel.mapRecords_conserves _ _ fun r => .ite (fun _ => r.fold_stays) fun _ => .refl r)

theorem Channel.closeBy_noMore (mode : CloseMode) : ch.NoMore (ch.closeBy mode) := by
  unfold Channel.closeBy
  split
  · exact (ch.discard_noMore _).trans (Channel.mapRecords_noMore _ _)
  · exact (ch.discard_noMore _).trans (Channel.mapRecords_noMore _ _)
  · split
    · exact ch.discard_noMore _
    · exact (ch.mapRecords_noMore _).trans (Channel.passEnd_noMore _)

/-- The channel of a close that is taken, before anything of it is absorbed, released or ended. -/
def Channel.closing (ch : Channel) (mode : CloseMode) (tag : U32) : Channel :=
  { ch with state := .closing, haltCause := none, closeRec := some { mode := mode, tag := tag } }

theorem Channel.close_eq (mode : CloseMode) (tag : U32) :
    ch.close mode tag = ((ch.closing mode tag).absorbAll.release.1.closeBy mode, (ch.closing mode tag).absorbAll.release.2) := rfl

theorem Channel.close_conserves (mode : CloseMode) (tag : U32) (ho : ch.state ≠ .closed) :
    ch.Conserves (ch.close mode tag).1 (ch.close mode tag).2 := by
  rw [Channel.close_eq]
  refine ((Channel.release_conserves _).behind ((Channel.absorbAll_conserves _).behind ?_)).after
    (Channel.closeBy_conserves _ _)
  exact .of_records id (List.map_id _).symm (fun r _ => .refl r) rfl (fun _ => by simp [Channel.closing, ho]) id

theorem Channel.close_noMore (mode : CloseMode) (tag : U32) : ch.NoMore (ch.close mode tag).1 := by
  rw [Channel.close_eq]
  exact ((Channel.closeBy_noMore _ _).behind (Channel.release_noMore _)).behind
    ((Channel.absorbAll_noMore _).behind ⟨rfl, le_rfl, le_rfl⟩)

theorem Channel.resumed_conserves (ho : ch.state = .halted) : ch.Conserves ch.resumed [] :=
  .of_records id (List.map_id _).symm (fun r _ => .refl r) rfl (fun _ => by simp [Channel.resumed, ho]) id

/-! ## Settling (R91, R92, R94) -/

theorem BufferRecord.passesLeave_window (r : BufferRecord) (c : ChanId) (d : Direction) (n : U16) :
    (r.passesLeave c d n).window = r.window := rfl

/-- The records that a settling leaves: those that finish hold no window any more, and those that are gone held none. -/
theorem Channel.settle_conserves (c : ChanId) : ch.Conserves (ch.settle c).1 (ch.settle c).2 := by
  refine ch.reap_conserves.before ?_
  generalize hch : ch.reap = a
  have hset : ∃ (fin : BufferRecord → Bool) (f : BufferRecord → BufferRecord),
      (∀ r, fin r = true → (f r).window = none) ∧ (∀ r, fin r = false → r.Stays (f r))
      ∧ (ch.settle c).1.list = (a.list.map f).dropWhile BufferRecord.gone
      ∧ (ch.settle c).2 = (a.list.filter fin).filterMap BufferRecord.window := by
    refine ⟨fun r => a.finished (r.keepPasses a.cfg.dir), _, fun r hr => ?_, fun r hr => ?_, by rw [← hch]; rfl, ?_⟩
    · simp only [hch, hr]; rfl
    · simp only [hch, hr]; exact ⟨rfl, id⟩
    · subst hch
      show (((ch.reap.list.map fun r => r.keepPasses ch.reap.cfg.dir).filter ch.reap.finished)).filterMap _ = _
      rw [List.filter_map, List.filterMap_map]
      rfl
  obtain ⟨fin, f, hfin, hstay, hlist, hws⟩ := hset
  have hstate : (ch.settle c).1.state = a.state ∧ (ch.settle c).1.ringWindow = a.ringWindow
      ∧ (ch.settle c).1.descRead = a.descRead := hch ▸ ⟨rfl, rfl, rfl⟩
  obtain ⟨hst, hring, hdesc⟩ := hstate
  have hret (ha : a.Lawful) : ∀ r ∈ a.list.map f, r.state = .retiring → r.window = none := by
    intro r hr hs
    obtain ⟨x, hx, rfl⟩ := List.mem_map.mp hr
    cases hf : fin x with
    | true => exact hfin x hf
    | false => exact (hstay x hf).window.trans (ha.retiring x hx ((hstay x hf).retiring hs))
  refine ⟨fun ha => ⟨fun r hr hs => ?_, fun hc => ?_⟩, fun ha w => ?_⟩
  · rw [hlist] at hr
    exact hret ha r ((List.dropWhile_sublist _).subset hr) hs
  · obtain ⟨h1, h2⟩ := ha.closed (hst ▸ hc)
    exact ⟨by rw [hlist, h1]; rfl, hdesc.trans h2⟩
  · have hgone : ((a.list.map f).dropWhile BufferRecord.gone).filterMap BufferRecord.window
        = (a.list.map f).filterMap BufferRecord.window := by
      conv_rhs => rw [← List.takeWhile_append_dropWhile (p := BufferRecord.gone) (l := a.list.map f)]
      rw [List.filterMap_append]
      refine (List.append_left_eq_self.mpr (List.filterMap_eq_nil_iff.mpr fun r hr => ?_)).symm
      have hg := List.mem_takeWhile_imp hr
      simp only [BufferRecord.gone, Bool.and_eq_true, beq_iff_eq] at hg
      exact hret ha r ((List.takeWhile_sublist _).subset hr) hg.1.1
    have hsplit : ((a.list.map f).filterMap BufferRecord.window).count w
        + ((a.list.filter fin).filterMap BufferRecord.window).count w = (a.list.filterMap BufferRecord.window).count w := by
      generalize a.list = l
      induction l with
      | nil => rfl
      | cons r rs ih =>
        cases hf : fin r with
        | true =>
          simp only [List.map_cons, List.filterMap_cons, hfin r hf, List.filter_cons_of_pos hf]
          cases r.window with
          | none => exact ih
          | some v => simp only [List.count_cons]; omega
        | false =>
          have hne : ¬ fin r = true := by simp [hf]
          simp only [List.map_cons, List.filterMap_cons, (hstay r hf).window, List.filter_cons_of_neg hne]
          cases r.window with
          | none => exact ih
          | some v => simp only [List.count_cons]; omega
    simp only [Channel.refs, held_eq_count, hlist, hgone, hws, hst, hring, Nat.add_assoc, hsplit]

theorem Channel.settle_noMore (c : ChanId) : ch.NoMore (ch.settle c).1 := by
  refine ch.reap_noMore.trans ⟨rfl, le_rfl, Nat.add_le_add_right ?_ _⟩
  exact (List.dropWhile_sublist _).length_le.trans (le_of_eq (List.length_map _))

end

end Sys2Proof.Machine
end

section
/-! SUPPORT. What one change of the part keeps: the nine laws side by side, for a change that leaves channels, windows and the
outstanding table alone, and for a channel that goes back into the state. -/

set_option Elab.async false

namespace Sys2Proof.Machine

/-! ## The laws side by side -/

/-- The change from `s` to `t` keeps each law by itself; that of the use counts under the premise `p`, which stands for what the law
says of the state before the step. -/
structure Keeps (p : Prop) (s t : State) : Prop where
  port : s.PortLaw → t.PortLaw
  link : s.LinkLaw → t.LinkLaw
  use : p → s.UseLaw → t.UseLaw
  room : s.RoomLaw → t.RoomLaw
  window : s.WindowLaw → t.WindowLaw
  phase : s.PhaseLaw → t.PhaseLaw
  coal : s.CoalescerLaw → t.CoalescerLaw
  addr : s.AddressLaw → t.AddressLaw
  quiet : s.Quiet → t.Quiet

theorem Keeps.refl (p : Prop) (s : State) : Keeps p s s := ⟨id, id, fun _ => id, id, id, id, id, id, id⟩

theorem Keeps.trans {p : Prop} {s t u : State} (h : Keeps p s t) (k : Keeps p t u) : Keeps p s u where
  port := k.port ∘ h.port
  link := k.link ∘ h.link
  use hp := k.use hp ∘ h.use hp
  room := k.room ∘ h.room
  window := k.window ∘ h.window
  phase := k.phase ∘ h.phase
  coal := k.coal ∘ h.coal
  addr := k.addr ∘ h.addr
  quiet := k.quiet ∘ h.quiet

theorem Keeps.behind {p : Prop} {s t u : State} (k : Keeps p t u) (h : Keeps p s t) : Keeps p s u := h.trans k

theorem Keeps.ite {p q : Prop} [Decidable q] {s a b : State} (ha : q → Keeps p s a) (hb : ¬ q → Keeps p s b) :
    Keeps p s (if q then a else b) := by
  split
  · next h => exact ha h
  · next h => exact hb h

/-! ## The holders of a window -/

theorem sum_map_add_filter {α : Type} (l : List α) (q : α → Bool) (g : α → Nat) :
    (l.filter q).length + (l.map g).sum = (l.map fun x => (if q x then 1 else 0) + g x).sum := by
  induction l with
  | nil => rfl
  | cons x xs ih => cases h : q x <;> simp [h, ← ih] <;> omega

/-- The reference of a list transfer (R138). -/
def transferRefs (t : Option ListTransfer) (w : WinId) : Nat := if t.map ListTransfer.window = some w then 1 else 0

theorem State.holders_eq (s : State) (w : WinId) :
    s.holders w = (∑ c : ChanId, (s.chan c).refs w) + transferRefs s.transfer w := by
  rw [State.holders, sum_map_add_filter, Fin.sum_univ_def]
  refine congrArg₂ (· + ·) ?_ ?_
  · simp [Channel.refs]
  · cases s.transfer <;> simp [transferRefs]

theorem State.holders_congr {s t : State} (hc : t.chans = s.chans)
    (ht : t.transfer.map ListTransfer.window = s.transfer.map ListTransfer.window) (w : WinId) : t.holders w = s.holders w := by
  rw [State.holders_eq, State.holders_eq, transferRefs, transferRefs, ht]
  simp only [State.chan, hc]

/-- One channel more or less: the holders change by what it holds. -/
theorem State.holders_setChan (s : State) (c : ChanId) (ch : Channel) (w : WinId) :
    (s.setChan c ch).holders w + (s.chan c).refs w = s.holders w + ch.refs w := by
  have hrest : ∑ x ∈ Finset.univ.erase c, ((s.setChan c ch).chan x).refs w
      = ∑ x ∈ Finset.univ.erase c, (s.chan x).refs w := by
    refine Finset.sum_congr rfl fun x hx => ?_
    rw [State.setChan_chan_other _ _ _ _ (Finset.ne_of_mem_erase hx)]
  have hnew := Finset.add_sum_erase Finset.univ (fun x => ((s.setChan c ch).chan x).refs w) (Finset.mem_univ c)
  have hold := Finset.add_sum_erase Finset.univ (fun x => (s.chan x).refs w) (Finset.mem_univ c)
  simp only [State.setChan_chan_same] at hnew
  rw [State.holders_eq, State.holders_eq, State.setChan_transfer]
  omega

/-- Every use count is the number of the holders and of the references in `ws` that are about to be let go. -/
def State.Uses (s : State) (ws : List WinId) : Prop := ∀ w, (s.window w).use = s.holders w + ws.count w

theorem State.Uses.congr {s t : State} {ws : List WinId} (h : s.Uses ws) (hw : t.windows = s.windows) (hc : t.chans = s.chans)
    (ht : t.transfer.map ListTransfer.window = s.transfer.map ListTransfer.window) : t.Uses ws := by
  intro w
  rw [State.holders_congr hc ht, ← h w]
  simp only [State.window, hw]

theorem State.Uses.letGo {s : State} {w : WinId} {ws : List WinId} (h : s.Uses (w :: ws)) : (s.letGo w).Uses ws := by
  intro k
  have hk := h k
  have hhold : (s.letGo w).holders k = s.holders k := State.holders_congr rfl rfl k
  rw [hhold]
  by_cases e : k = w
  · subst e
    rw [List.count_cons_self] at hk
    simp only [State.letGo, State.setWindow_window_same]
    omega
  · rw [List.count_cons_of_ne (Ne.symm e)] at hk
    rw [State.letGo, State.setWindow_window_other _ _ _ _ e, hk]

theorem State.Uses.letGoAll {ws vs : List WinId} {s : State} (h : s.Uses (ws ++ vs)) : (s.letGoAll ws).Uses vs := by
  induction ws generalizing s with
  | nil => exact h
  | cons w ws ih => exact ih h.letGo

theorem State.Uses.claim {s : State} {w : WinId} {ws : List WinId} (h : s.Uses ws) : (s.claim w).Uses (w :: ws) := by
  intro k
  have hhold : (s.claim w).holders k = s.holders k := State.holders_congr rfl rfl k
  rw [hhold]
  by_cases e : k = w
  · subst e
    rw [List.count_cons_self]
    simp only [State.claim, State.setWindow_window_same, h k, Nat.add_assoc]
  · rw [List.count_cons_of_ne (Ne.symm e), State.claim, State.setWindow_window_other _ _ _ _ e, h k]

/-- A channel that goes back: what it holds no longer is about to be let go, what it holds anew has been claimed. -/
theorem State.Uses.setChan {s : State} {c : ChanId} {ch : Channel} {before after : List WinId} (h : s.Uses before)
    (hrefs : ∀ w, ch.refs w + after.count w = (s.chan c).refs w + before.count w) : (s.setChan c ch).Uses after := by
  intro w
  have hw : ((s.setChan c ch).window w).use = (s.window w).use := rfl
  have := s.holders_setChan c ch w
  have := hrefs w
  have := h w
  omega

/-- The clauses of the use law about channels. -/
def State.Lawful (s : State) : Prop := ∀ c, (s.chan c).Lawful

theorem State.UseLaw.lawful {s : State} (h : s.UseLaw) : s.Lawful := fun c => ⟨h.retiring c, h.closed c⟩

theorem State.uses_nil (s : State) : s.Uses [] ↔ ∀ w, (s.window w).use = s.holders w := by
  simp only [State.Uses, List.count_nil, Nat.add_zero]

theorem State.UseLaw.uses {s : State} (h : s.UseLaw) : s.Uses [] := s.uses_nil.mpr h.use

theorem State.UseLaw.of_uses {s : State} (hu : s.Uses []) (hl : s.Lawful)
    (ht : s.transfer.isSome → s.cmd.state = .taking ∨ s.cmd.state = .stopped)
    (hn : s.device.state = .off ∨ s.device.state = .loading → s.transfer = none) : s.UseLaw :=
  ⟨s.uses_nil.mp hu, fun c => (hl c).retiring, fun c => (hl c).closed, ht, hn⟩

theorem State.Lawful.setChan {s : State} {c : ChanId} {ch : Channel} (h : s.Lawful) (hc : ch.Lawful) :
    (s.setChan c ch).Lawful := by
  intro k
  rw [State.setChan_chan]
  split
  · exact hc
  · exact h k

/-! ## Changes beside channels, windows and the outstanding table -/

/-- The channels, the windows, the outstanding table and the window of a list transfer are as they were; of what may differ, the laws
that read it are kept. -/
structure Aside (p : Prop) (s t : State) : Prop where
  chans : t.chans = s.chans
  windows : t.windows = s.windows
  table : t.port.table = s.port.table
  data : t.port.dataCount = s.port.dataCount
  desc : t.port.descCount = s.port.descCount
  held : t.transfer.map ListTransfer.window = s.transfer.map ListTransfer.window
  link : s.LinkLaw → t.LinkLaw
  phase : s.PhaseLaw → t.PhaseLaw
  coal : s.CoalescerLaw → t.CoalescerLaw
  addr : s.AddressLaw → t.AddressLaw
  cmd : p → s.UseLaw → t.transfer.isSome → t.cmd.state = .taking ∨ t.cmd.state = .stopped
  unloaded : p → s.UseLaw → t.device.state = .off ∨ t.device.state = .loading → t.transfer = none

theorem State.PortLaw.congr {s t : State} (h : s.PortLaw) (ht : t.port.table = s.port.table)
    (hd : t.port.dataCount = s.port.dataCount) (he : t.port.descCount = s.port.descCount) : t.PortLaw := by
  intro c
  have := h c
  simp only [Port.data, Port.desc, Port.entriesOf, Port.entry, ht, hd, he] at this ⊢
  exact this

theorem State.LinkLaw.congr {s t : State} (h : s.LinkLaw) (hl : t.links = s.links) (hm : t.maps = s.maps)
    (hd : t.device = s.device) : t.LinkLaw := by
  intro l
  have := h l
  simp only [State.link, State.map, hl, hm, hd] at this ⊢
  exact this

theorem State.WindowLaw.congr {s t : State} (h : s.WindowLaw) (hw : t.windows = s.windows) : t.WindowLaw := by
  intro w
  have := h w
  simp only [State.window, hw] at this ⊢
  exact this

theorem State.PhaseLaw.congr {s t : State} (h : s.PhaseLaw) (hq : t.writer.queue = s.writer.queue)
    (hi : t.writer.writeIndex = s.writer.writeIndex) (hp : t.writer.phase = s.writer.phase) : t.PhaseLaw := by
  intro q e
  rw [hi, hp]
  exact h q (hq ▸ e)

theorem State.CoalescerLaw.congr {s t : State} (h : s.CoalescerLaw) (hc : t.coal = s.coal)
    (hd : t.device.state ≠ .resetting → s.device.state ≠ .resetting) : t.CoalescerLaw := by
  refine ⟨?_, ?_, ?_, ?_, ?_⟩ <;> rw [hc]
  · exact h.count
  · exact h.time
  · exact h.below
  · exact fun hn => h.timer (hd hn)
  · exact h.elapsed

theorem State.AddressLaw.congr {s t : State} (h : s.AddressLaw) (hd : t.device = s.device) : t.AddressLaw := by
  simpa only [State.AddressLaw, hd] using h

theorem State.RoomLaw.congr {s t : State} (h : s.RoomLaw) (hc : t.chans = s.chans) : t.RoomLaw := by
  intro c
  have e : t.chan c = s.chan c := by simp only [State.chan, hc]
  rw [e]
  exact h c

theorem State.Quiet.congr {s t : State} (h : s.Quiet) (hc : t.chans = s.chans) : t.Quiet := by
  intro c
  simpa only [State.chan, hc] using h c

theorem State.Lawful.congr {s t : State} (h : s.Lawful) (hc : t.chans = s.chans) : t.Lawful := by
  intro c
  simpa only [State.chan, hc] using h c

theorem Aside.keeps {p : Prop} {s t : State} (h : Aside p s t) : Keeps p s t where
  port k := k.congr h.table h.data h.desc
  link := h.link
  use hp k := .of_uses (k.uses.congr h.windows h.chans h.held) (k.lawful.congr h.chans) (h.cmd hp k) (h.unloaded hp k)
  room k := k.congr h.chans
  window k := k.congr h.windows
  phase := h.phase
  coal := h.coal
  addr := h.addr
  quiet k := k.congr h.chans

/-- Only the books of the command queue, the completion queue, the waiting requests, the interrupts and the model's own counts
differ. -/
structure Books (s t : State) : Prop where
  device : t.device = s.device
  links : t.links = s.links
  maps : t.maps = s.maps
  transfer : t.transfer = s.transfer
  chans : t.chans = s.chans
  windows : t.windows = s.windows
  coal : t.coal = s.coal
  table : t.port.table = s.port.table
  data : t.port.dataCount = s.port.dataCount
  desc : t.port.descCount = s.port.descCount
  queue : t.writer.queue = s.writer.queue
  writeIndex : t.writer.writeIndex = s.writer.writeIndex
  phase : t.writer.phase = s.writer.phase

theorem Books.refl (s : State) : Books s s := ⟨rfl, rfl, rfl, rfl, rfl, rfl, rfl, rfl, rfl, rfl, rfl, rfl, rfl⟩

theorem Books.trans {s t u : State} (h : Books s t) (k : Books t u) : Books s u :=
  ⟨k.device.trans h.device, k.links.trans h.links, k.maps.trans h.maps, k.transfer.trans h.transfer, k.chans.trans h.chans,
    k.windows.trans h.windows, k.coal.trans h.coal, k.table.trans h.table, k.data.trans h.data, k.desc.trans h.desc,
    k.queue.trans h.queue, k.writeIndex.trans h.writeIndex, k.phase.trans h.phase⟩

theorem Books.behind {s t u : State} (k : Books t u) (h : Books s t) : Books s u := h.trans k

/-- A change of the books keeps every law, where a list transfer in progress leaves the Command Processor in TAKING or STOPPED. -/
theorem Books.keeps {p : Prop} {s t : State} (h : Books s t)
    (cmd : p → s.UseLaw → s.transfer.isSome → t.cmd.state = .taking ∨ t.cmd.state = .stopped) : Keeps p s t :=
  Aside.keeps {
    chans := h.chans, windows := h.windows, table := h.table, data := h.data, desc := h.desc
    held := congrArg _ h.transfer
    link := fun k => k.congr h.links h.maps h.device
    phase := fun k => k.congr h.queue h.writeIndex h.phase
    coal := fun k => k.congr h.coal (by rw [h.device]; exact id)
    addr := fun k => k.congr h.device
    cmd := fun hp k => by rw [h.transfer]; exact cmd hp k
    unloaded := fun _ k => by rw [h.transfer, h.device]; exact k.unloaded }

/-- The Command Processor keeps its state. -/
theorem Books.keeps_same {p : Prop} {s t : State} (h : Books s t) (hc : t.cmd.state = s.cmd.state) : Keeps p s t :=
  h.keeps fun _ k hs => by rw [hc]; exact k.transfer hs

theorem State.presentCpl_books (s : State) : Books s s.presentCpl ∧ s.presentCpl.cmd = s.cmd := by
  unfold State.presentCpl
  split
  · exact ⟨⟨rfl, rfl, rfl, rfl, rfl, rfl, rfl, rfl, rfl, rfl, rfl, rfl, rfl⟩, rfl⟩
  · exact ⟨.refl _, rfl⟩

theorem State.formDone_books (s : State) (x : Completion) : Books s (s.formDone x) ∧ (s.formDone x).cmd = s.cmd := by
  obtain ⟨h, k⟩ := State.presentCpl_books (s.setWriter { s.writer with
    list := s.writer.list ++ [x], reservations := s.writer.reservations - 1 })
  exact ⟨h.behind ⟨rfl, rfl, rfl, rfl, rfl, rfl, rfl, rfl, rfl, rfl, rfl, rfl, rfl⟩, k⟩

theorem State.enterList_books (s : State) (x : Completion) : Books s (s.enterList x) ∧ (s.enterList x).cmd = s.cmd := by
  obtain ⟨h, k⟩ := State.presentCpl_books (s.setWriter { s.writer with list := s.writer.list ++ [x] })
  exact ⟨h.behind ⟨rfl, rfl, rfl, rfl, rfl, rfl, rfl, rfl, rfl, rfl, rfl, rfl, rfl⟩, k⟩

theorem State.presentCmdRead_books (s : State) : Books s s.presentCmdRead :=
  ⟨rfl, rfl, rfl, rfl, rfl, rfl, rfl, rfl, rfl, rfl, rfl, rfl, rfl⟩

theorem State.finishTaking_books (s : State) : Books s s.finishTaking := by
  rw [State.finishTaking_eq]
  exact ⟨rfl, rfl, rfl, rfl, rfl, rfl, rfl, rfl, rfl, rfl, rfl, rfl, rfl⟩

theorem State.complete_books (s : State) (x : Completion) : Books s (s.complete x) :=
  (s.formDone_books x).1.trans (State.finishTaking_books _)

theorem State.grantReservation_books (s : State) : Books s s.grantReservation :=
  ⟨rfl, rfl, rfl, rfl, rfl, rfl, rfl, rfl, rfl, rfl, rfl, rfl, rfl⟩

theorem State.grantWaiting_books (s : State) :
    Books s s.grantWaiting ∧ (s.grantWaiting.cmd.state = s.cmd.state ∨ s.grantWaiting.cmd.state = .taking) := by
  unfold State.grantWaiting
  split
  · exact ⟨s.grantReservation_books, .inr rfl⟩
  · exact ⟨.refl s, .inl rfl⟩

theorem State.rejectPost_books (s : State) (k : PostKind) (c : Option ChanId) (i : U32) (r : PostReason) :
    Books s (s.rejectPost k c i r) := ⟨rfl, rfl, rfl, rfl, rfl, rfl, rfl, rfl, rfl, rfl, rfl, rfl, rfl⟩

section
variable {p : Prop} {s : State}

theorem Keeps.formDone (x : Completion) : Keeps p s (s.formDone x) :=
  (s.formDone_books x).1.keeps_same (congrArg _ (s.formDone_books x).2)

theorem Keeps.enterList (x : Completion) : Keeps p s (s.enterList x) :=
  (s.enterList_books x).1.keeps_same (congrArg _ (s.enterList_books x).2)

theorem Keeps.grantReservation : Keeps p s s.grantReservation :=
  s.grantReservation_books.keeps fun _ _ _ => .inl rfl

theorem Keeps.grantWaiting : Keeps p s s.grantWaiting :=
  s.grantWaiting_books.1.keeps fun _ k hs => by
    rcases s.grantWaiting_books.2 with e | e
    · rw [e]; exact k.transfer hs
    · exact .inl e

theorem Keeps.finishTaking (hn : p → s.transfer = none) : Keeps p s s.finishTaking :=
  s.finishTaking_books.keeps fun hp _ hs => by rw [hn hp] at hs; cases hs

theorem Keeps.complete (hn : p → s.transfer = none) (x : Completion) : Keeps p s (s.complete x) :=
  (s.complete_books x).keeps fun hp _ hs => by rw [hn hp] at hs; cases hs

end

/-! ## Channels that go back into the state -/

section
variable {P : ChanId → Prop} {s t : State} (h : OnlyChannels P s t)
include h

theorem OnlyChannels.keeps_port (k : s.PortLaw) : t.PortLaw := by
  obtain ⟨_, _, _, _, e⟩ := h.port
  exact k.congr (by rw [e]) (by rw [e]) (by rw [e])

theorem OnlyChannels.keeps_window (k : s.WindowLaw) : t.WindowLaw := by
  intro w
  obtain ⟨n, _, e⟩ := h.windows w
  rw [e]
  exact ⟨(k w).enabled, (k w).disabled⟩

theorem OnlyChannels.keeps_phase (k : s.PhaseLaw) : t.PhaseLaw := by
  obtain ⟨_, _, _, e⟩ := h.writer
  exact k.congr (by rw [e]) (by rw [e]) (by rw [e])

theorem OnlyChannels.cmd_state : t.cmd.state = s.cmd.state ∨ t.cmd.state = .taking := by
  rcases h.cmd with e | ⟨_, _, _, e⟩
  · exact .inl (congrArg _ e)
  · exact .inr (congrArg _ e)

/-- Channels that are handled keep every law that their own clauses do not speak of. -/
theorem OnlyChannels.keeps {p : Prop} (use : p → s.UseLaw → t.Uses [] ∧ t.Lawful) (room : s.RoomLaw → t.RoomLaw)
    (quiet : s.Quiet → t.Quiet) : Keeps p s t where
  port := h.keeps_port
  link k := k.congr h.links h.maps h.device
  use hp k := .of_uses (use hp k).1 (use hp k).2
    (fun hs => by
      rcases h.cmd_state with e | e
      · rw [e]; exact k.transfer (h.transfer ▸ hs)
      · exact .inl e)
    (fun hd => by rw [h.transfer]; exact k.unloaded (h.device ▸ hd))
  room := room
  window := h.keeps_window
  phase := h.keeps_phase
  coal k := k.congr h.coal (by rw [h.device]; exact id)
  addr k := k.congr h.device
  quiet := quiet

end

theorem State.letGoAll_chans (ws : List WinId) (s : State) : (s.letGoAll ws).chans = s.chans := by
  induction ws generalizing s with
  | nil => rfl
  | cons w ws ih => exact ih (s.letGo w)

theorem State.letGoAll_transfer (ws : List WinId) (s : State) : (s.letGoAll ws).transfer = s.transfer := by
  induction ws generalizing s with
  | nil => rfl
  | cons w ws ih => exact ih (s.letGo w)

/-- The channel of a close that has ended (R40, R54). -/
def Channel.ended (ch : Channel) : Channel := { ch with state := .closed, closeRec := none }

theorem State.finishClose_eq (s : State) (c : ChanId) :
    s.finishClose c = ((s.letGoAll (s.chan c).ringWindow.toList).setChan c (s.chan c).ended).formDone
      (closeDoneOf c (s.chan c) (((s.chan c).closeRec.map CloseRecord.tag).getD 0)) := by
  have h (o : Option WinId) : (match o with
      | some w => s.letGo w
      | none => s) = s.letGoAll o.toList := by
    cases o <;> rfl
  exact congrArg (fun u => (State.setChan u c (s.chan c).ended).formDone
    (closeDoneOf c (s.chan c) (((s.chan c).closeRec.map CloseRecord.tag).getD 0))) (h (s.chan c).ringWindow)

theorem State.letGoAll_setChan (ws : List WinId) (s : State) (c : ChanId) (ch : Channel) :
    (s.letGoAll ws).setChan c ch = (s.setChan c ch).letGoAll ws := by
  induction ws generalizing s with
  | nil => rfl
  | cons w ws ih => exact ih (s.letGo w)

/-- The end of a close lets go of the ring's reference, and leaves a CLOSED channel (R54). -/
theorem State.finishClose_uses (s : State) (c : ChanId) (hdone : (s.chan c).closeDone = true) (hu : s.Uses []) (hl : s.Lawful) :
    (s.finishClose c).Uses [] ∧ (s.finishClose c).Lawful := by
  obtain ⟨⟨⟨⟨hst, hq⟩, hd⟩, hg⟩, hlist⟩ : (((((s.chan c).state = .closing ∧ (s.chan c).requests = [])
      ∧ (s.chan c).descRead = .none) ∧ (s.chan c).groups = []) ∧ (s.chan c).list = []) := by
    simpa [Channel.closeDone] using hdone
  have hclosed : (s.chan c).ended.Lawful := ⟨(hl c).retiring, fun _ => ⟨hlist, hd⟩⟩
  have hset : (s.setChan c (s.chan c).ended).Uses ((s.chan c).ringWindow.toList ++ []) := by
    refine hu.setChan fun w => ?_
    simp only [Channel.refs, Channel.ended, hst, hlist, List.append_nil]
    cases (s.chan c).ringWindow with
    | none => rfl
    | some v => by_cases e : v = w <;> simp [e]
  have hbooks := (State.formDone_books ((s.letGoAll (s.chan c).ringWindow.toList).setChan c (s.chan c).ended)
    (closeDoneOf c (s.chan c) (((s.chan c).closeRec.map CloseRecord.tag).getD 0))).1
  have huses := hset.letGoAll
  rw [← State.letGoAll_setChan] at huses
  rw [State.finishClose_eq]
  exact ⟨huses.congr hbooks.windows hbooks.chans (congrArg _ hbooks.transfer),
    ((hl.congr (State.letGoAll_chans _ _)).setChan hclosed).congr hbooks.chans⟩

theorem State.endClose_uses (s : State) (c : ChanId) (hu : s.Uses []) (hl : s.Lawful) :
    (s.endClose c).Uses [] ∧ (s.endClose c).Lawful := by
  unfold State.endClose
  split
  · next h =>
    obtain ⟨huses, hlaw⟩ := s.finishClose_uses c h.1 hu hl
    have hb := (s.finishClose c).grantWaiting_books.1
    exact ⟨huses.congr hb.windows hb.chans (congrArg _ hb.transfer), hlaw.congr hb.chans⟩
  · exact ⟨hu, hl⟩

/-- The channel, as it settles and goes back, lets go of what it no longer holds. -/
theorem State.update_uses (s : State) (c : ChanId) (r : Channel × List WinId) (claimed : List WinId) (hu : s.Uses claimed)
    (hl : s.Lawful) (hlaw : r.1.Lawful) (hrefs : ∀ w, r.1.refs w + r.2.count w = (s.chan c).refs w + claimed.count w)
    (hreset : s.device.state = .resetting → r.2 = []) : (s.update c r).Uses [] ∧ (s.update c r).Lawful := by
  have hsettle := r.1.settle_conserves c
  unfold State.update
  simp only []
  split
  · next hr =>
    refine ⟨hu.setChan fun w => ?_, hl.setChan hlaw⟩
    have := hrefs w
    rwa [hreset hr] at this
  · refine State.endClose_uses _ _ ?_ ?_
    · have hset : (s.setChan c (r.1.settle c).1).Uses ((r.2 ++ (r.1.settle c).2) ++ []) := by
        refine hu.setChan fun w => ?_
        have := hrefs w
        have := hsettle.refs hlaw w
        rw [List.append_nil, List.count_append]
        omega
      exact hset.letGoAll.congr rfl rfl rfl
    · exact State.Lawful.congr ((hl.setChan (hsettle.lawful hlaw)).congr (State.letGoAll_chans _ _)) rfl

/-- The end of a close leaves a channel as it is, or ends it. -/
theorem State.endClose_chan (s : State) (c : ChanId) :
    (s.endClose c).chan c = s.chan c ∨ (s.endClose c).chan c = (s.chan c).ended := by
  unfold State.endClose
  split
  · right
    have hw : (s.finishClose c).grantWaiting.chans = ((s.letGoAll (s.chan c).ringWindow.toList).setChan c (s.chan c).ended).chans := by
      rw [(s.finishClose c).grantWaiting_books.1.chans, State.finishClose_eq, (State.formDone_books _ _).1.chans]
    have he : (s.finishClose c).grantWaiting.chan c
        = ((s.letGoAll (s.chan c).ringWindow.toList).setChan c (s.chan c).ended).chan c := by
      simp only [State.chan, hw]
    rw [he, State.setChan_chan_same]
  · exact .inl rfl

/-- The channel that goes back, as it stands then: while RESETTING as it is, else settled, and CLOSED where its close ends. -/
theorem State.update_chan (s : State) (c : ChanId) (r : Channel × List WinId) :
    (s.device.state = .resetting ∧ (s.update c r).chan c = r.1)
    ∨ (s.device.state ≠ .resetting
      ∧ ((s.update c r).chan c = (r.1.settle c).1 ∨ (s.update c r).chan c = (r.1.settle c).1.ended)) := by
  unfold State.update
  simp only []
  split
  · next h => exact .inl ⟨h, State.setChan_chan_same _ _ _⟩
  · next h =>
    have hpres : (((s.setChan c (r.1.settle c).1).letGoAll (r.2 ++ (r.1.settle c).2)).present c).chan c
        = (r.1.settle c).1 := by
      show ((s.setChan c (r.1.settle c).1).letGoAll _).chan c = _
      rw [State.letGoAll_chan, State.setChan_chan_same]
    have hend := State.endClose_chan (((s.setChan c (r.1.settle c).1).letGoAll (r.2 ++ (r.1.settle c).2)).present c) c
    rw [hpres] at hend
    exact .inr ⟨h, hend⟩

theorem State.update_chan_other (s : State) (c k : ChanId) (r : Channel × List WinId) (h : k ≠ c) :
    (s.update c r).chan k = s.chan k :=
  (s.update_only (· = c) c r rfl).chans k h

/-- A law of each channel by itself is kept, where the settling and the end of a close keep it. -/
theorem State.update_each {Q : Channel → Prop} (s : State) (c : ChanId) (r : Channel × List WinId) (h : ∀ k, Q (s.chan k))
    (hreset : s.device.state = .resetting → Q r.1) (hsettle : s.device.state ≠ .resetting → Q (r.1.settle c).1)
    (hend : ∀ ch : Channel, Q ch → Q ch.ended) : ∀ k, Q ((s.update c r).chan k) := by
  intro k
  by_cases hk : k = c
  · subst hk
    rcases s.update_chan k r with ⟨hd, e⟩ | ⟨hd, e | e⟩ <;> rw [e]
    · exact hreset hd
    · exact hsettle hd
    · exact hend _ (hsettle hd)
  · rw [s.update_chan_other c k r hk]
    exact h k

theorem State.update_room (s : State) (c : ChanId) (r : Channel × List WinId) (h : s.RoomLaw) (hr : r.1.Room) :
    (s.update c r).RoomLaw :=
  s.update_each (Q := Channel.Room) c r h (fun _ => hr) (fun _ => (r.1.settle_noMore c).room hr) fun _ k => k

theorem State.update_quiet (s : State) (c : ChanId) (r : Channel × List WinId) (h : s.Quiet)
    (hreset : s.device.state = .resetting → r.1.requests = (s.chan c).requests) : (s.update c r).Quiet :=
  s.update_each (Q := Channel.Quiet) c r h (fun hd q hq => h c q (hreset hd ▸ hq))
    (fun _ q hq => ((r.1.settle_spec c).2.1 q hq).2) fun _ k => k

/-- A channel that goes back keeps every law. While RESETTING nothing settles, so there its requests must be as they were. -/
theorem Keeps.update {p : Prop} {s : State} {c : ChanId} {r : Channel × List WinId}
    (hcons : (s.chan c).Conserves r.1 r.2) (hroom : (s.chan c).Room → r.1.Room)
    (hreset : s.device.state = .resetting → r.1.requests = (s.chan c).requests ∧ r.2 = []) : Keeps p s (s.update c r) :=
  (s.update_only (· = c) c r rfl).keeps
    (fun _ k => s.update_uses c r [] k.uses k.lawful (hcons.lawful (k.lawful c)) (fun w => hcons.refs (k.lawful c) w)
      fun h => (hreset h).2)
    (fun k => s.update_room c r k (hroom (k c)))
    (fun k => s.update_quiet c r k fun h => (hreset h).1)

/-- A change at the link goes back in every device state. -/
theorem Keeps.update_atLink {p : Prop} {s : State} {c : ChanId} {ch : Channel} (h : (s.chan c).AtLink ch)
    (hroom : (s.chan c).Room → ch.Room) : Keeps p s (s.update c (ch, [])) :=
  .update h.conserves hroom fun _ => ⟨h.requests, rfl⟩

/-- A channel goes back with a record whose window has just been claimed (R86, R138). -/
theorem Keeps.claim_update {p : Prop} {s : State} {c : ChanId} {w : WinId} {ch : Channel} (hg : (s.chan c).Gains ch [w])
    (hroom : (s.chan c).Room → ch.Room) (hd : s.device.state ≠ .resetting) : Keeps p s ((s.claim w).update c (ch, [])) := by
  have honly := (s.claim w).update_only (· = c) c (ch, []) rfl
  exact {
    port := fun k => honly.keeps_port k
    link := fun k => State.LinkLaw.congr (s := s) k honly.links honly.maps honly.device
    use := fun _ k => by
      have hu := State.update_uses (s.claim w) c (ch, []) [w] k.uses.claim k.lawful (hg.lawful (k.lawful c))
        (fun v => hg.refs (k.lawful c) v) fun h => absurd h hd
      refine .of_uses hu.1 hu.2 (fun hs => ?_) fun ho => ?_
      · rcases honly.cmd_state with e | e
        · rw [e]; exact k.transfer (honly.transfer ▸ hs)
        · exact .inl e
      · exact honly.transfer.trans (k.unloaded (honly.device ▸ ho))
    room := fun k => State.update_room (s.claim w) c (ch, []) k (hroom (k c))
    window := fun k => honly.keeps_window fun v => by
      rw [State.claim, State.setWindow_window]
      split
      · next e => exact ⟨(e ▸ (k v)).enabled, (e ▸ (k v)).disabled⟩
      · exact k v
    phase := fun k => honly.keeps_phase k
    coal := fun k => State.CoalescerLaw.congr (s := s) k honly.coal (by rw [honly.device]; exact id)
    addr := fun k => State.AddressLaw.congr (s := s) k honly.device
    quiet := fun k => State.update_quiet (s.claim w) c (ch, []) k fun h => absurd h hd }

theorem Keeps.endClose {p : Prop} {s : State} (c : ChanId) : Keeps p s (s.endClose c) := by
  have hchan : ∀ {Q : Channel → Prop}, (∀ k, Q (s.chan k)) → (∀ ch : Channel, Q ch → Q ch.ended) →
      ∀ k, Q ((s.endClose c).chan k) := by
    intro Q h hend k
    by_cases hk : k = c
    · subst hk
      rcases s.endClose_chan k with e | e <;> rw [e]
      · exact h k
      · exact hend _ (h k)
    · rw [(s.endClose_only (· = c) c rfl).chans k hk]
      exact h k
  exact (s.endClose_only (· = c) c rfl).keeps (fun _ k => s.endClose_uses c k.uses k.lawful)
    (fun k => hchan (Q := Channel.Room) k fun _ h => h) fun k => hchan (Q := Channel.Quiet) k fun _ h => h

/-- A notice keeps every law, where what it makes of a channel is a change at the link that takes no room. -/
theorem Keeps.notify {p : Prop} (b : Bank) (f : Channel → Channel) (hf : ∀ ch : Channel, ch.AtLink (f ch))
    (hroom : ∀ ch : Channel, ch.NoMore (f ch)) (s : State) : Keeps p s (s.notify b f) := by
  unfold State.notify
  generalize List.finRange 64 = cs
  induction cs generalizing s with
  | nil => exact .refl _ _
  | cons c cs ih =>
    rw [List.foldl_cons]
    refine Keeps.trans (.ite (fun _ => ?_) fun _ => .refl _ _) (ih _)
    exact .update_atLink (hf _) (hroom _).room

theorem Keeps.notify_linkDown {p : Prop} (b : Bank) (s : State) : Keeps p s (s.notify b Channel.linkDown) :=
  .notify b _ Channel.linkDown_atLink Channel.linkDown_noMore s

theorem Keeps.notify_cutShort {p : Prop} (b : Bank) (s : State) : Keeps p s (s.notify b Channel.cutShort) :=
  .notify b _ Channel.cutShort_atLink Channel.cutShort_noMore s

end Sys2Proof.Machine
end

section
/-! SUPPORT. What the rows of the links and the bit clocks keep: the law of one link for each thing that a framer does, and with it
the laws of the part (R3 to R19). -/

set_option Elab.async false

namespace Sys2Proof.Machine

/-! ## The law of a link, change by change -/

theorem Link.Law.slots_pos {l : Link} (h : l.Law) {cfg : LinkConfig} (hc : l.config = some cfg) : 0 < cfg.slots := by
  have := (h.range cfg hc).1
  omega

theorem Link.Law.width_ge {l : Link} (h : l.Law) {cfg : LinkConfig} (hc : l.config = some cfg) : 8 ≤ cfg.width := by
  have := (h.range cfg hc).2.2
  omega

/-- What a link that is not LOCKED must meet. -/
theorem Link.Law.of_not_locked {l : Link} (hst : l.state ≠ .locked) (hconf : l.state ≠ .off → l.config.isSome)
    (hrange : ∀ cfg, l.config = some cfg → 4 ≤ cfg.slots ∧ cfg.slots ≤ 128 ∧ (cfg.width = 8 ∨ cfg.width = 16))
    (hoff : l.state = .off → l.missed = 0) (hquiet : l.txd = none ∧ l.bitPos = none) (hmissed : l.missed ≤ missedSyncLimit)
    (hevent : ∀ e, l.event = some e → e.linkState = l.state ∧ e.slips ≤ countLimit ∧ e.losses ≤ countLimit) : l.Law :=
  ⟨hconf, hrange, hoff, fun _ => hquiet, fun _ h => absurd h hst, hmissed, hevent⟩

theorem Link.Law.stopped {l : Link} (h : l.Law) : l.stopped.Law := by
  refine .of_not_locked (by simp [Link.stopped]) (fun hn => absurd rfl hn) h.range (fun _ => rfl) ⟨rfl, rfl⟩ (Nat.zero_le _) ?_
  intro e he
  obtain ⟨x, hx, rfl⟩ := Option.map_eq_some_iff.mp he
  exact ⟨rfl, (h.event x hx).2⟩

theorem satCount_le (n : Nat) (h : n ≤ countLimit) : satCount n ≤ countLimit := by
  unfold satCount
  split <;> omega

/-- The record that a link event forms or merges into is at the state given, its counts within their limit (R17, R18). -/
theorem LinkEvent.note_law (held : Option LinkEvent) (k : LinkEventKind) (st : LinkState) (stamp : U32)
    (h : ∀ e, held = some e → e.slips ≤ countLimit ∧ e.losses ≤ countLimit) :
    (LinkEvent.note held k st stamp).linkState = st ∧ (LinkEvent.note held k st stamp).slips ≤ countLimit
      ∧ (LinkEvent.note held k st stamp).losses ≤ countLimit := by
  cases held with
  | none =>
    refine ⟨rfl, ?_, ?_⟩ <;> simp only [LinkEvent.note] <;> split <;> decide
  | some e =>
    obtain ⟨hs, hl⟩ := h e rfl
    refine ⟨rfl, ?_, ?_⟩ <;> simp only [LinkEvent.note] <;> split
    · exact satCount_le _ hs
    · exact hs
    · exact satCount_le _ hl
    · exact hl

theorem Link.Law.event_counts {l : Link} (h : l.Law) (e : LinkEvent) (he : l.event = some e) :
    e.slips ≤ countLimit ∧ e.losses ≤ countLimit := (h.event e he).2

/-- A link that stands at the start of a frame, whatever it was before. -/
theorem Link.Law.at_start {l x : Link} (h : l.Law) (hc : x.config = l.config) (hsome : l.config.isSome) (hst : x.state = .locked)
    (hp : x.bitPos = some 0) (hl : x.launched = 0) (hd : x.completed = 0) (hm : x.missed ≤ missedSyncLimit)
    (hevent : ∀ e, x.event = some e → e.linkState = .locked ∧ e.slips ≤ countLimit ∧ e.losses ≤ countLimit) : x.Law := by
  refine ⟨fun _ => hc ▸ hsome, fun cfg hx => h.range cfg (hc ▸ hx), fun hoff => ?_, fun hn => absurd hst hn,
    fun cfg _ hx => ⟨0, hp, ?_⟩, hm, fun e he => hst ▸ hevent e he⟩
  · rw [hst] at hoff; cases hoff
  · simp [hl, hd]

/-- The next frame of a LOCKED link (R12). -/
theorem Link.Law.startFrame {l : Link} (h : l.Law) (hst : l.state = .locked) {missed : Nat} (hm : missed ≤ missedSyncLimit) :
    (l.startFrame missed).Law :=
  h.at_start rfl (h.configured (by rw [hst]; decide)) rfl rfl rfl rfl hm fun e he => hst ▸ h.event e he

theorem Link.Law.pulseFrame {l : Link} (h : l.Law) (hst : l.state = .locked) : l.pulseFrame.Law :=
  h.at_start rfl (h.configured (by rw [hst]; decide)) rfl rfl rfl rfl (Nat.zero_le _) fun e he => hst ▸ h.event e he

/-- A frame that a sync pulse starts, with the event that it brings (R8, R11, R17). -/
theorem Link.Law.pulseFrame_note {l : Link} (h : l.Law) (hst : l.state ≠ .off) (k : LinkEventKind) (txd : Option U16) :
    ({ l.pulseFrame.note k with txd := txd } : Link).Law := by
  refine h.at_start rfl (h.configured hst) rfl rfl rfl rfl (Nat.zero_le _) fun e he => ?_
  obtain rfl := Option.some.inj he
  exact LinkEvent.note_law _ _ _ _ h.event_counts

theorem Link.Law.afterLoss {l : Link} (h : l.Law) (hst : l.state ≠ .off) : l.afterLoss.Law := by
  refine .of_not_locked (l := l.afterLoss) (by simp [Link.afterLoss, Link.note]) (fun _ => h.configured hst) h.range
    (fun hoff => by simp [Link.afterLoss, Link.note] at hoff) ⟨rfl, rfl⟩ le_rfl fun e he => ?_
  obtain rfl := Option.some.inj he
  exact LinkEvent.note_law _ _ _ _ h.event_counts

theorem Link.Law.started {l : Link} (h : l.Law) (hst : l.state = .off) {role : SyncRole} (hr : l.role = some role) :
    (l.started role).Law := by
  have hsome : l.config.isSome := by
    simp only [Link.role, Option.map_eq_some_iff] at hr
    obtain ⟨cfg, hc, _⟩ := hr
    simp [hc]
  cases role with
  | roleIn =>
    have hquiet := h.quiet (by rw [hst]; decide)
    exact .of_not_locked (by simp [Link.started]) (fun _ => hsome) h.range (fun hoff => by cases hoff) hquiet
      (Nat.zero_le _) (fun e he => by cases he)
  | roleOut =>
    refine h.at_start rfl hsome rfl rfl rfl rfl (Nat.zero_le _) fun e he => ?_
    obtain rfl := Option.some.inj he
    exact LinkEvent.note_law _ _ _ _ fun e he => by cases he

theorem Link.Law.configure {l : Link} (h : l.Law) (hst : l.state = .off) {r : List Byte} {cfg : LinkConfig}
    (hc : linkConfigOf r = some cfg) : ({ l with config := some cfg } : Link).Law := by
  obtain ⟨⟨hlo, hhi⟩, hw, _, _⟩ := linkFieldsInRange_of_linkConfigOf hc
  have hcfg := (linkConfigOf_in_range (linkFieldsInRange_of_linkConfigOf hc)).symm.trans hc
  refine .of_not_locked (by simp [hst]) (fun _ => rfl) (fun x hx => ?_) h.offMissed (h.quiet (by simp [hst])) h.missed h.event
  obtain rfl := Option.some.inj hx
  obtain rfl := Option.some.inj hcfg
  refine ⟨hlo, hhi, ?_⟩
  rcases hw with e | e <;> simp [linkFields, e]

theorem Link.Law.dropEvent {l : Link} (h : l.Law) : ({ l with event := none } : Link).Law :=
  ⟨h.configured, h.range, h.offMissed, h.quiet, h.place, h.missed, fun _ he => by cases he⟩

theorem Link.Law.sampled {l : Link} (h : l.Law) (b : BitClock) : (l.sampled b).Law :=
  ⟨h.configured, h.range, h.offMissed, h.quiet, h.place, h.missed, h.event⟩

/-- A slot launches: the one after the last launched, when the slots before the last launched have completed (R13). -/
theorem Link.Law.launchSlot {l x : Link} (h : l.Law) (hst : l.state = .locked) {cfg : LinkConfig} (hc : l.config = some cfg)
    {slot : Nat} (hslot : slot < cfg.slots) (hdue : l.launched = slot) (hle : l.completed ≤ slot)
    (hbefore : slot ≤ l.completed + 1) (txd : Option U16)
    (hx : x = { l with bitPos := some (slot * cfg.width), launched := slot + 1, txd := txd }) : x.Law := by
  subst hx
  refine ⟨h.configured, h.range, h.offMissed, fun hn => absurd hst hn, fun c _ hc' => ?_, h.missed, h.event⟩
  obtain rfl : cfg = c := Option.some.inj (hc.symm.trans hc')
  have hw := h.width_ge hc
  refine ⟨_, rfl, by simp only; omega, hslot, by simp, fun _ => ?_, fun _ he => ?_, fun hlt => ?_⟩
  · simp only [Nat.add_sub_cancel, Nat.add_mul]
    omega
  · simp only at he; omega
  · simp only [Nat.add_sub_cancel] at hlt ⊢
    exact ⟨by omega, trivial⟩

/-- The launched slot completes (R13). -/
theorem Link.Law.completeSlot {l x : Link} (h : l.Law) (hst : l.state = .locked) {cfg : LinkConfig} (hc : l.config = some cfg)
    {slot : Nat} (hdue : l.completed ≤ slot) (hlaunched : slot < l.launched)
    (hx : x = { l with
      bitPos := if l.launched = slot + 1 then some (slot * cfg.width + cfg.width - 1) else l.bitPos
      completed := slot + 1 }) : x.Law := by
  subst hx
  refine ⟨h.configured, h.range, h.offMissed, fun hn => absurd hst hn, fun c _ hc' => ?_, h.missed, h.event⟩
  obtain rfl : cfg = c := Option.some.inj (hc.symm.trans hc')
  have hw := h.width_ge hc
  obtain ⟨p, hp, hle, hslots, hzero, hin, hend, hlag⟩ := h.place cfg hst hc
  by_cases he : l.launched = slot + 1
  · refine ⟨slot * cfg.width + cfg.width - 1, by simp [he], by simp only; omega, hslots, by simp [he], fun _ => ?_, fun _ _ => ?_,
      by simp only; omega⟩
    · simp only [he, Nat.add_sub_cancel, Nat.add_mul]
      omega
    · simp only [he, Nat.add_mul]
      omega
  · refine ⟨p, by simp [he, hp], by simp only; omega, hslots, hzero, hin, by simp only; omega, fun hlt => ?_⟩
    simp only at hlt
    have hx : l.completed + 1 < l.launched := by omega
    have := hlag hx
    omega

/-! ## A link of the part, and its bank pair -/

/-- From `s` to `t` only the link `l` and its bank pair differ, and the books of the Completion Writer and of the command queue. -/
structure Framed (l : LinkId) (s t : State) : Prop where
  device : t.device = s.device
  links : ∀ k, k ≠ l → t.link k = s.link k
  maps : ∀ k, k ≠ l → t.map k = s.map k
  transfer : t.transfer = s.transfer
  chans : t.chans = s.chans
  windows : t.windows = s.windows
  coal : t.coal = s.coal
  table : t.port.table = s.port.table
  data : t.port.dataCount = s.port.dataCount
  desc : t.port.descCount = s.port.descCount
  queue : t.writer.queue = s.writer.queue
  writeIndex : t.writer.writeIndex = s.writer.writeIndex
  phase : t.writer.phase = s.writer.phase
  cmd : t.cmd.state = s.cmd.state ∨ t.cmd.state = .taking

theorem Framed.trans {l : LinkId} {s t u : State} (h : Framed l s t) (k : Framed l t u) : Framed l s u where
  device := k.device.trans h.device
  links n hn := (k.links n hn).trans (h.links n hn)
  maps n hn := (k.maps n hn).trans (h.maps n hn)
  transfer := k.transfer.trans h.transfer
  chans := k.chans.trans h.chans
  windows := k.windows.trans h.windows
  coal := k.coal.trans h.coal
  table := k.table.trans h.table
  data := k.data.trans h.data
  desc := k.desc.trans h.desc
  queue := k.queue.trans h.queue
  writeIndex := k.writeIndex.trans h.writeIndex
  phase := k.phase.trans h.phase
  cmd := by
    rcases k.cmd with e | e
    · rw [e]; exact h.cmd
    · exact .inr e

theorem Framed.behind {l : LinkId} {s t u : State} (k : Framed l t u) (h : Framed l s t) : Framed l s u := h.trans k

theorem Books.framed {s t : State} (h : Books s t) (l : LinkId) (hc : t.cmd.state = s.cmd.state ∨ t.cmd.state = .taking) :
    Framed l s t where
  device := h.device
  links k _ := by simp only [State.link, h.links]
  maps k _ := by simp only [State.map, h.maps]
  transfer := h.transfer
  chans := h.chans
  windows := h.windows
  coal := h.coal
  table := h.table
  data := h.data
  desc := h.desc
  queue := h.queue
  writeIndex := h.writeIndex
  phase := h.phase
  cmd := hc

theorem Books.link_eq {s t : State} (h : Books s t) (l : LinkId) : t.link l = s.link l := by simp only [State.link, h.links]

theorem Books.map_eq {s t : State} (h : Books s t) (l : LinkId) : t.map l = s.map l := by simp only [State.map, h.maps]

theorem State.setLink_framed (s : State) (l : LinkId) (x : Link) : Framed l s (s.setLink l x) :=
  ⟨rfl, fun _ hk => s.setLink_link_other l _ x hk, fun _ _ => rfl, rfl, rfl, rfl, rfl, rfl, rfl, rfl, rfl, rfl, rfl, .inl rfl⟩

theorem State.setMap_framed (s : State) (l : LinkId) (x : SlotMap) : Framed l s (s.setMap l x) :=
  ⟨rfl, fun _ _ => rfl, fun _ hk => s.setMap_map_other l _ x hk, rfl, rfl, rfl, rfl, rfl, rfl, rfl, rfl, rfl, rfl, .inl rfl⟩

/-- What the law of the links says of one link and its bank pair (R20). -/
structure State.LinkLawAt (s : State) (l : LinkId) : Prop where
  law : (s.link l).Law
  tag : (s.map l).swapPending → (s.map l).swapTag.isSome
  locked : (s.map l).swapPending → s.device.state ≠ .faulted → s.device.state ≠ .resetting → (s.link l).state = .locked

theorem State.LinkLaw.at {s : State} (h : s.LinkLaw) (l : LinkId) : s.LinkLawAt l := ⟨(h l).1, (h l).2.1, (h l).2.2⟩

theorem State.LinkLawAt.of_not_pending {s : State} {l : LinkId} (h : (s.link l).Law) (hp : (s.map l).swapPending = false) :
    s.LinkLawAt l := ⟨h, fun e => by simp [hp] at e, fun e => by simp [hp] at e⟩

theorem Framed.linkLaw {l : LinkId} {s t : State} (h : Framed l s t) (hs : s.LinkLaw) (hl : t.LinkLawAt l) : t.LinkLaw := by
  intro k
  by_cases e : k = l
  · exact e ▸ ⟨hl.law, hl.tag, hl.locked⟩
  · rw [h.links k e, h.maps k e, h.device]
    exact hs k

theorem Framed.keeps {p : Prop} {l : LinkId} {s t : State} (h : Framed l s t) (hl : s.LinkLaw → t.LinkLawAt l) : Keeps p s t :=
  Aside.keeps {
    chans := h.chans, windows := h.windows, table := h.table, data := h.data, desc := h.desc
    held := congrArg _ h.transfer
    link := fun k => h.linkLaw k (hl k)
    phase := fun k => k.congr h.queue h.writeIndex h.phase
    coal := fun k => k.congr h.coal (by rw [h.device]; exact id)
    addr := fun k => k.congr h.device
    cmd := fun _ k hs => by
      rcases h.cmd with e | e
      · rw [e]; exact k.transfer (h.transfer ▸ hs)
      · exact .inl e
    unloaded := fun _ k => by rw [h.transfer, h.device]; exact k.unloaded }

/-- A link that is put back LOCKED where it was LOCKED. -/
theorem Keeps.setLink {p : Prop} {s : State} {l : LinkId} {x : Link} (hx : s.LinkLaw → x.Law)
    (hst : (s.link l).state = .locked → x.state = .locked) : Keeps p s (s.setLink l x) :=
  (s.setLink_framed l x).keeps fun k => ⟨by simpa using hx k, (k l).2.1, fun hp hf hr => by
    simpa using hst ((k l).2.2 hp hf hr)⟩

/-- The banks of a link change, its pending swap does not. -/
theorem Keeps.setMap {p : Prop} {s : State} {l : LinkId} {m : SlotMap} (hp : m.swapPending = (s.map l).swapPending)
    (ht : m.swapTag = (s.map l).swapTag) : Keeps p s (s.setMap l m) :=
  (s.setMap_framed l m).keeps fun k => ⟨(k l).1, by simpa [hp, ht] using (k l).2.1, by simpa [hp] using (k l).2.2⟩

/-! ## Swaps -/

theorem State.swapBanks_framed (s : State) (l : LinkId) (cause : SwapCause) (tag : U32) :
    Framed l s (s.swapBanks l cause tag) ∧ (s.swapBanks l cause tag).link l = s.link l
      ∧ ((s.swapBanks l cause tag).map l).swapPending = false := by
  let m : SlotMap := { active := (s.map l).standby, standby := (s.map l).active, swapPending := false, swapTag := none }
  obtain ⟨hb, hc⟩ := State.formDone_books (s.setMap l m)
    { commandDone .swapSlotMap tag .ok (BitVec.ofNat 8 l.val) (s.link l).frame with v0 := cause.code }
  refine ⟨(hb.framed l (.inl (congrArg _ hc))).behind (s.setMap_framed l _), ?_, ?_⟩
  · exact hb.link_eq l
  · have e : (s.swapBanks l cause tag).map l = m := (hb.map_eq l).trans (State.setMap_map_same _ _ _)
    rw [e]

/-- A pending swap performed leaves none pending (R15). -/
theorem State.performPending_framed (s : State) (l : LinkId) (cause : SwapCause) :
    Framed l s (s.performPending l cause) ∧ (s.performPending l cause).link l = s.link l
      ∧ ((s.performPending l cause).map l).swapPending = false := by
  unfold State.performPending
  split
  · obtain ⟨hf, hl, hm⟩ := s.swapBanks_framed l cause ((s.map l).swapTag.getD 0)
    obtain ⟨hb, hc⟩ := (s.swapBanks l cause ((s.map l).swapTag.getD 0)).grantWaiting_books
    refine ⟨(hb.framed l hc).behind hf, ?_, ?_⟩
    · exact (hb.link_eq l).trans hl
    · rw [hb.map_eq]
      exact hm
  · next h => exact ⟨(Books.refl s).framed l (.inl rfl), rfl, by simpa using h⟩

/-- The link is put back and any pending swap performed: what the link is by itself decides (R15). -/
theorem State.setLink_performPending_framed (s : State) (l : LinkId) (x : Link) (cause : SwapCause) :
    Framed l s ((s.setLink l x).performPending l cause) ∧ ((s.setLink l x).performPending l cause).link l = x
      ∧ (((s.setLink l x).performPending l cause).map l).swapPending = false := by
  obtain ⟨hf, hl, hm⟩ := (s.setLink l x).performPending_framed l cause
  exact ⟨hf.behind (s.setLink_framed l x), by simpa using hl, hm⟩

theorem Keeps.setLink_performPending {p : Prop} {s : State} {l : LinkId} {x : Link} {cause : SwapCause}
    (hx : s.LinkLaw → x.Law) : Keeps p s ((s.setLink l x).performPending l cause) := by
  obtain ⟨hf, hl, hm⟩ := s.setLink_performPending_framed l x cause
  exact hf.keeps fun k => .of_not_pending (by rw [hl]; exact hx k) hm

/-! ## The links' events and commands -/

section
variable {p : Prop} {s : State} {l : LinkId}

theorem Link.boundaryAs_locked {x : Link} {role : SyncRole} (h : x.boundaryAs role = true) : x.state = .locked := by
  simp only [Link.boundaryAs, Link.lockedAs, Bool.and_eq_true, beq_iff_eq] at h
  exact h.1.1

theorem Keeps.lockLink : Keeps p s (s.lockLink l) := by
  unfold State.lockLink
  refine .ite (fun h => ?_) fun _ => .refl _ _
  refine .setLink (fun k => ?_) fun _ => rfl
  exact ((k l).1.pulseFrame_note (by rw [h.1]; decide) .locked _)

theorem Keeps.nextFrame {next : Link} (hx : s.LinkLaw → next.Law) : Keeps p s (s.nextFrame l next) :=
  .setLink_performPending hx

theorem Keeps.syncOnTime : Keeps p s (s.syncOnTime l) := by
  unfold State.syncOnTime
  exact .ite (fun h => .nextFrame fun k => (k l).1.pulseFrame (Link.boundaryAs_locked h)) fun _ => .refl _ _

theorem Keeps.freewheel : Keeps p s (s.freewheel l) := by
  unfold State.freewheel
  exact .ite (fun h => .nextFrame fun k => (k l).1.startFrame (Link.boundaryAs_locked h.1) h.2.le) fun _ => .refl _ _

theorem Keeps.frameBoundaryOut : Keeps p s (s.frameBoundaryOut l) := by
  unfold State.frameBoundaryOut
  exact .ite (fun h => .nextFrame fun k => (k l).1.startFrame (Link.boundaryAs_locked h) (Nat.zero_le _)) fun _ => .refl _ _

theorem Keeps.linkLoss : Keeps p s (s.linkLoss l) := by
  unfold State.linkLoss
  refine .ite (fun h => ?_) fun _ => .refl _ _
  refine .behind (Keeps.notify_linkDown _ _) (.setLink_performPending fun k => (k l).1.afterLoss ?_)
  rw [Link.boundaryAs_locked h.1]
  decide

theorem State.notify_link (s : State) (b : Bank) (f : Channel → Channel) (l : LinkId) : (s.notify b f).link l = s.link l :=
  congrArg (fun v => v[l.val]) (s.notify_only b f).links

theorem Keeps.slip : Keeps p s (s.slip l) := by
  unfold State.slip
  refine .ite (fun h => ?_) fun _ => .refl _ _
  refine .behind (.setLink_performPending fun k => ?_) (Keeps.notify_cutShort _ _)
  have hlaw := (k l).1
  rw [State.notify_link] at hlaw
  refine hlaw.pulseFrame_note ?_ .slip none
  have hst : (s.link l).state = .locked := by
    have := h.1
    simp only [Link.lockedAs, Bool.and_eq_true, beq_iff_eq] at this
    exact this.1
  rw [hst]
  decide

theorem Keeps.stopLocked : Keeps p s (s.stopLocked l) := by
  unfold State.stopLocked
  refine .behind (Keeps.notify_linkDown _ _) ?_
  obtain ⟨hf, _, hm⟩ := s.performPending_framed l .stop
  refine (hf.trans (State.setLink_framed _ l _)).keeps fun k => .of_not_pending ?_ hm
  simpa using (k l).1.stopped

end

end Sys2Proof.Machine
end

section
/-! SUPPORT. What the slot events and the bit clocks keep: each moves one link and handles channels, and what it makes of the link
keeps the law of that link (R6, R13, R67, R68). -/

set_option Elab.async false

namespace Sys2Proof.Machine

/-! ## The laws but that of the links -/

/-- The change from `s` to `t` keeps each law but that of the links. -/
structure KeepsRest (p : Prop) (s t : State) : Prop where
  port : s.PortLaw → t.PortLaw
  use : p → s.UseLaw → t.UseLaw
  room : s.RoomLaw → t.RoomLaw
  window : s.WindowLaw → t.WindowLaw
  phase : s.PhaseLaw → t.PhaseLaw
  coal : s.CoalescerLaw → t.CoalescerLaw
  addr : s.AddressLaw → t.AddressLaw
  quiet : s.Quiet → t.Quiet

theorem KeepsRest.keeps {p : Prop} {s t : State} (h : KeepsRest p s t) (hl : s.LinkLaw → t.LinkLaw) : Keeps p s t :=
  ⟨h.port, hl, h.use, h.room, h.window, h.phase, h.coal, h.addr, h.quiet⟩

theorem Keeps.rest {p : Prop} {s t : State} (h : Keeps p s t) : KeepsRest p s t :=
  ⟨h.port, h.use, h.room, h.window, h.phase, h.coal, h.addr, h.quiet⟩

theorem KeepsRest.trans {p : Prop} {s t u : State} (h : KeepsRest p s t) (k : KeepsRest p t u) : KeepsRest p s u where
  port := k.port ∘ h.port
  use hp := k.use hp ∘ h.use hp
  room := k.room ∘ h.room
  window := k.window ∘ h.window
  phase := k.phase ∘ h.phase
  coal := k.coal ∘ h.coal
  addr := k.addr ∘ h.addr
  quiet := k.quiet ∘ h.quiet

theorem KeepsRest.behind {p : Prop} {s t u : State} (k : KeepsRest p t u) (h : KeepsRest p s t) : KeepsRest p s u := h.trans k

theorem KeepsRest.refl (p : Prop) (s : State) : KeepsRest p s s := (Keeps.refl p s).rest

theorem KeepsRest.setLink (p : Prop) (s : State) (l : LinkId) (x : Link) : KeepsRest p s (s.setLink l x) where
  port := id
  use _ h := ⟨fun w => (h.use w).trans (State.holders_congr (s := s) (t := s.setLink l x) rfl rfl w).symm, h.retiring, h.closed,
    h.transfer, h.unloaded⟩
  room := id
  window := id
  phase := id
  coal h := ⟨h.count, h.time, h.below, h.timer, h.elapsed⟩
  addr := id
  quiet := id

/-! ## A link moves, and channels are handled -/

/-- From `s` to `t` the link `l` becomes `x` and channels are handled. -/
abbrev State.Moved (s : State) (l : LinkId) (x : Link) (t : State) : Prop := OnlyChannels (fun _ => True) (s.setLink l x) t

section
variable {s t u : State} {l : LinkId} {x y : Link}

theorem State.Moved.link (h : s.Moved l x t) : t.link l = x := by
  have e : t.link l = (s.setLink l x).link l := by simp only [State.link, h.links]
  rw [e, State.setLink_link_same]

theorem State.Moved.map (h : s.Moved l x t) (k : LinkId) : t.map k = s.map k := by
  simp only [State.map, h.maps, State.setLink_maps]

theorem State.Moved.only (h : s.Moved l x t) (k : OnlyChannels (fun _ => True) t u) : s.Moved l x u := OnlyChannels.trans h k

theorem State.setLink_self (s : State) (l : LinkId) : s.setLink l (s.link l) = s := by
  simp [State.setLink, State.link]

theorem State.Moved.refl (s : State) (l : LinkId) : s.Moved l (s.link l) s := by
  unfold State.Moved
  rw [State.setLink_self]
  exact .refl _ _

theorem State.setLink_setLink (s : State) (l : LinkId) (x y : Link) : (s.setLink l x).setLink l y = s.setLink l y := by
  simp [State.setLink]

theorem OnlyChannels.setLink {P : ChanId → Prop} (h : OnlyChannels P s t) (l : LinkId) (x : Link) :
    OnlyChannels P (s.setLink l x) (t.setLink l x) where
  device := h.device
  links := by simp only [State.setLink, h.links]
  maps := h.maps
  transfer := h.transfer
  cmd := h.cmd
  coal := h.coal
  cause := h.cause
  mask := h.mask
  freeBytes := h.freeBytes
  pending := h.pending
  clocks := h.clocks
  chans := h.chans
  windows := h.windows
  port := h.port
  writer := h.writer

theorem State.Moved.trans (h : s.Moved l x t) (k : t.Moved l y u) : s.Moved l y u := by
  have := OnlyChannels.trans (OnlyChannels.setLink h l y) k
  rwa [State.setLink_setLink] at this

theorem State.Moved.linkLaw (h : s.Moved l x t) (hs : s.LinkLaw) (hx : x.Law)
    (hst : (s.link l).state = .locked → x.state = .locked) : t.LinkLaw :=
  ((Keeps.setLink (p := True) (fun _ => hx) hst).link hs).congr h.links h.maps h.device

end

/-! ## The slot events -/

/-- The link as it launches a slot (R13, R14). -/
def Link.launchAt (x : Link) (slot width : Nat) (txd : Option U16) : Link :=
  { x with bitPos := some (slot * width), launched := slot + 1, txd := txd }

/-- The link as a slot of it completes (R13). -/
def Link.completeAt (x : Link) (slot width : Nat) : Link :=
  { x with
    bitPos := if x.launched = slot + 1 then some (slot * width + width - 1) else x.bitPos
    completed := slot + 1 }

section
variable {p : Prop} (s : State) (l : LinkId) (slot : SlotId) (cfg : LinkConfig)

theorem State.transmitSlot_spec : ∃ txd, s.Moved l ((s.link l).launchAt slot.val cfg.width txd) (s.transmitSlot l slot cfg)
    ∧ KeepsRest p s (s.transmitSlot l slot cfg) := by
  unfold State.transmitSlot
  simp only []
  split
  · next h _ =>
    exact ⟨_, State.update_only _ _ _ _ trivial, (KeepsRest.setLink p s l _).trans
      (Keeps.update_atLink (Channel.transmit_atLink _ _ _) (Channel.transmit_noMore _ _ _).room).rest⟩
  · exact ⟨_, OnlyChannels.refl _ _, .setLink _ _ _ _⟩

theorem State.receiveSlot_spec (sample : U16) : s.Moved l ((s.link l).completeAt slot.val cfg.width)
      (s.receiveSlot l slot cfg sample)
    ∧ KeepsRest p s (s.receiveSlot l slot cfg sample) := by
  unfold State.receiveSlot
  simp only []
  split
  · next h _ =>
    exact ⟨State.update_only _ _ _ _ trivial, (KeepsRest.setLink p s l _).trans
      (Keeps.update_atLink (Channel.receive_atLink _ _ _ _) (Channel.receive_room _ _ _ _)).rest⟩
  · exact ⟨OnlyChannels.refl _ _, .setLink _ _ _ _⟩

theorem Keeps.departGroup (c : ChanId) : Keeps p s (s.departGroup c) := by
  unfold State.departGroup
  exact .ite (fun _ => .update_atLink (Channel.depart_atLink _) (Channel.depart_noMore _).room) fun _ => .refl _ _

/-- The end of a slot completes it, where it has not completed. -/
theorem State.endSlot_spec : s.Moved l (if (s.link l).completed ≤ slot.val then (s.link l).completeAt slot.val cfg.width else s.link l)
      (s.endSlot l slot cfg)
    ∧ KeepsRest p s (s.endSlot l slot cfg) := by
  have hfirst : s.Moved l (if (s.link l).completed ≤ slot.val then (s.link l).completeAt slot.val cfg.width else s.link l)
        (if (s.link l).completed ≤ slot.val then s.receiveSlot l slot cfg (s.link l).rxBits else s)
      ∧ KeepsRest p s (if (s.link l).completed ≤ slot.val then s.receiveSlot l slot cfg (s.link l).rxBits else s) := by
    split
    · exact s.receiveSlot_spec l slot cfg _
    · exact ⟨.refl s l, .refl p s⟩
  have hdepart (c : ChanId) (t : State) : OnlyChannels (fun _ => True) t (t.departGroup c) :=
    (t.departGroup_only c).mono fun _ _ => trivial
  by_cases h : ∃ x, (s.map l).active[slot.val].tx = some x ∧ x.lane.val + 1 = (s.chan x.chan).cfg.lanes
  · obtain ⟨x, hx, hlast⟩ := h
    rw [s.endSlot_of_last l slot cfg x hx hlast]
    exact ⟨hfirst.1.only (hdepart _ _), hfirst.2.trans (Keeps.departGroup _ _).rest⟩
  · rw [s.endSlot_of_not_last l slot cfg fun x hx hlast => h ⟨x, hx, hlast⟩]
    exact hfirst

end

/-! ## The rows of the slot events -/

section
variable {p : Prop} {s : State} {l : LinkId} {slot : SlotId}

theorem State.lockedSlot_eq_some {due : Bool} {cfg : LinkConfig} (h : s.lockedSlot l slot due = some cfg) :
    (s.link l).state = .locked ∧ due = true ∧ (s.link l).config = some cfg ∧ slot.val < cfg.slots := by
  unfold State.lockedSlot at h
  split at h
  · next hc =>
    obtain ⟨hcfg, hslot⟩ := Option.filter_eq_some_iff.mp h
    exact ⟨hc.1, hc.2, hcfg, by simpa using hslot⟩
  · cases h

theorem Link.Law.completed_le {x : Link} (h : x.Law) (hst : x.state = .locked) : x.completed ≤ x.launched := by
  obtain ⟨cfg, hc⟩ := Option.isSome_iff_exists.mp (h.configured (by rw [hst]; decide))
  obtain ⟨_, _, hle, _⟩ := h.place cfg hst hc
  exact hle

theorem Keeps.transmitSlot {cfg : LinkConfig} (h : s.lockedSlot l slot ((s.link l).mayLaunch slot.val) = some cfg) :
    Keeps p s (s.transmitSlot l slot cfg) := by
  obtain ⟨hst, hdue, hcfg, hslot⟩ := State.lockedSlot_eq_some h
  obtain ⟨hl, hc⟩ : (s.link l).launched = slot.val ∧ slot.val ≤ (s.link l).completed + 1 := by
    simpa [Link.mayLaunch] using hdue
  obtain ⟨txd, hmoved, hrest⟩ := s.transmitSlot_spec (p := p) l slot cfg
  refine hrest.keeps fun k => hmoved.linkLaw k ?_ fun _ => hst
  have := (k l).1.completed_le hst
  exact (k l).1.launchSlot hst hcfg hslot hl (by omega) hc txd rfl

theorem Keeps.receiveSlot {cfg : LinkConfig} (h : s.lockedSlot l slot ((s.link l).mayComplete slot.val) = some cfg) (sample : U16) :
    Keeps p s (s.receiveSlot l slot cfg sample) := by
  obtain ⟨hst, hdue, hcfg, hslot⟩ := State.lockedSlot_eq_some h
  obtain ⟨hc, hl⟩ : (s.link l).completed = slot.val ∧ slot.val < (s.link l).launched := by
    simpa [Link.mayComplete] using hdue
  obtain ⟨hmoved, hrest⟩ := s.receiveSlot_spec (p := p) l slot cfg sample
  exact hrest.keeps fun k => hmoved.linkLaw k ((k l).1.completeSlot hst hcfg hc.le hl rfl) fun _ => hst

end

/-! ## The bit clock -/

/-- The slot events due at the bit position `p` have been raised (R13). -/
structure Link.Raised (x : Link) (cfg : LinkConfig) (p : Nat) : Prop where
  law : x.Law
  locked : x.state = .locked
  config : x.config = some cfg
  bitPos : x.bitPos = some p
  launched : x.launched = p / cfg.width + 1
  completed : p / cfg.width ≤ x.completed

theorem Link.Raised.place {x : Link} {cfg : LinkConfig} {p : Nat} (h : x.Raised cfg p) : x.place = some (cfg, p) :=
  (Link.place_eq_some _ _ _).mpr ⟨h.locked, h.config, h.bitPos⟩

/-- The bounds of the slot counts of a LOCKED link. -/
theorem Link.Raised.bounds {x : Link} {cfg : LinkConfig} {p : Nat} (h : x.Raised cfg p) :
    0 < cfg.width ∧ x.completed ≤ p / cfg.width + 1 ∧ p / cfg.width < cfg.slots ∧ p / cfg.width < 128
      ∧ (x.completed = p / cfg.width + 1 → p + 1 = (p / cfg.width + 1) * cfg.width) := by
  obtain ⟨q, hq, hle, hslots, _, _, hend, _⟩ := h.law.place cfg h.locked h.config
  obtain rfl : p = q := Option.some.inj (h.bitPos.symm.trans hq)
  have hw := h.law.width_ge h.config
  have hrange := (h.law.range cfg h.config).2.1
  rw [h.launched] at hle hslots hend
  exact ⟨by omega, hle, hslots, lt_of_lt_of_le hslots hrange, fun e => hend (Nat.succ_pos _) e⟩

theorem fin128_val {n : Nat} (h : n < 128) : (Fin.ofNat 128 n : SlotId).val = n := by simp [Fin.ofNat, Nat.mod_eq_of_lt h]

/-- Where the slot before has completed, the launch alone is due. -/
theorem State.raiseDue_launches {s : State} {l : LinkId} {cfg : LinkConfig} {p : Nat} (hp : (s.link l).place = some (cfg, p))
    (hc : p / cfg.width ≤ (s.link l).completed) (hl : (s.link l).launched ≤ p / cfg.width) :
    s.raiseDue l = s.transmitSlot l (Fin.ofNat 128 (p / cfg.width)) cfg := by
  simp only [State.raiseDue, hp, if_neg (Nat.not_lt.mpr hc), if_pos hl]

section
variable {p : Prop} (s : State) (l : LinkId)

theorem State.raiseDue_rest : KeepsRest p s (s.raiseDue l) := by
  have hend (cfg : LinkConfig) (n m : Nat) : KeepsRest p s (if n < m then s.endSlot l (Fin.ofNat 128 n) cfg else s) := by
    split
    · exact (s.endSlot_spec l _ cfg).2
    · exact .refl p s
  have hlaunch (t : State) (cfg : LinkConfig) (n m : Nat) :
      KeepsRest p t (if n ≤ m then t.transmitSlot l (Fin.ofNat 128 m) cfg else t) := by
    split
    · obtain ⟨_, _, h⟩ := t.transmitSlot_spec (p := p) l (Fin.ofNat 128 m) cfg
      exact h
    · exact .refl p t
  unfold State.raiseDue
  split
  · exact (hend _ _ _).trans (hlaunch _ _ _ _)
  · exact .refl p s

theorem State.endSlotHere_rest : KeepsRest p s (s.endSlotHere l) := by
  unfold State.endSlotHere
  split
  · split
    · exact (s.endSlot_spec l _ _).2
    · exact .refl p s
  · exact .refl p s

end

section
variable {s : State} {l : LinkId} {cfg : LinkConfig} {p : Nat}

/-- What is due where a lawful link stands is raised, and the link stands where it stood. -/
theorem State.raiseDue_raised (h : (s.link l).Law) (hp : (s.link l).place = some (cfg, p)) :
    ∃ x, s.Moved l x (s.raiseDue l) ∧ x.Raised cfg p := by
  obtain ⟨hst, hcfg, hpos⟩ := (Link.place_eq_some _ _ _).mp hp
  obtain ⟨q, hq, hle, hslots, hzero, hin, _, hlag⟩ := h.place cfg hst hcfg
  obtain rfl : p = q := Option.some.inj (hpos.symm.trans hq)
  have hw := h.width_ge hcfg
  have hrange := (h.range cfg hcfg).2.1
  rcases Nat.eq_zero_or_pos (s.link l).launched with h0 | hpos0
  · obtain rfl := hzero h0
    have hc0 : (s.link l).completed = 0 := by omega
    obtain ⟨txd, hmoved, _⟩ := s.transmitSlot_spec (p := True) l (Fin.ofNat 128 (0 / cfg.width)) cfg
    rw [State.raiseDue_launches hp (by simp) (by simp [h0])]
    refine ⟨_, hmoved, ?_, hst, hcfg, ?_, ?_, ?_⟩
    · exact h.launchSlot hst hcfg (slot := 0) (h.slots_pos hcfg) h0 (by omega) (by omega) txd (by simp [Link.launchAt])
    · simp [Link.launchAt]
    · simp [Link.launchAt]
    · simp [Link.launchAt]
  · obtain ⟨hlo, hhi⟩ := hin hpos0
    have hdiv : p / cfg.width = (s.link l).launched - 1 := by
      refine Nat.div_eq_of_lt_le hlo ?_
      rwa [Nat.sub_add_cancel hpos0]
    by_cases hdue : (s.link l).completed < p / cfg.width
    · obtain ⟨htwo, _⟩ := hlag (by omega)
      obtain ⟨hmoved, _⟩ := s.endSlot_spec (p := True) l (Fin.ofNat 128 (s.link l).completed) cfg
      rw [fin128_val (by omega), if_pos le_rfl] at hmoved
      have hlink := hmoved.link
      have hraise : s.raiseDue l = s.endSlot l (Fin.ofNat 128 (s.link l).completed) cfg := by
        have hn : ¬ ((s.endSlot l (Fin.ofNat 128 (s.link l).completed) cfg).link l).launched ≤ p / cfg.width := by
          rw [hlink, hdiv]
          exact Nat.not_le.mpr (show (s.link l).launched - 1 < (s.link l).launched by omega)
        simp only [State.raiseDue, hp, hdue, if_true, if_neg hn]
      rw [hraise]
      refine ⟨_, hmoved, h.completeSlot hst hcfg le_rfl (by omega) rfl, hst, hcfg, ?_, ?_, ?_⟩
      · have hne : (s.link l).launched ≠ (s.link l).completed + 1 := by omega
        simp [Link.completeAt, hne, hpos]
      · show (s.link l).launched = p / cfg.width + 1
        rw [hdiv]
        omega
      · show p / cfg.width ≤ (s.link l).completed + 1
        rw [hdiv]
        omega
    · rw [s.raiseDue_of_raised l cfg p hp (by rw [hdiv]; omega) (Nat.not_lt.mp hdue)]
      exact ⟨_, .refl s l, h, hst, hcfg, hpos, by rw [hdiv]; omega, Nat.not_lt.mp hdue⟩

/-- The slot events due at the bit position have been raised, and the slot that ends there has ended (R13). -/
structure Link.Ended (x : Link) (cfg : LinkConfig) (p : Nat) : Prop extends x.Raised cfg p where
  ended : cfg.width ∣ p + 1 → x.completed = p / cfg.width + 1

theorem State.endSlotHere_ended (h : (s.link l).Raised cfg p) : ∃ x, s.Moved l x (s.endSlotHere l) ∧ x.Ended cfg p := by
  obtain ⟨hw, hle, hslot, h128, _⟩ := h.bounds
  by_cases hlast : (p + 1) % cfg.width = 0
  · obtain ⟨hmoved, _⟩ := s.endSlot_spec (p := True) l (Fin.ofNat 128 (p / cfg.width)) cfg
    rw [fin128_val h128] at hmoved
    have hend : s.endSlotHere l = s.endSlot l (Fin.ofNat 128 (p / cfg.width)) cfg := by
      simp [State.endSlotHere, h.place, hlast]
    rw [hend]
    have hp : p + 1 = p / cfg.width * cfg.width + cfg.width := by
      have := Nat.succ_div_of_dvd (Nat.dvd_of_mod_eq_zero hlast)
      have := Nat.div_mul_cancel (Nat.dvd_of_mod_eq_zero hlast)
      rw [← this, Nat.succ_div_of_dvd (Nat.dvd_of_mod_eq_zero hlast), Nat.add_mul, Nat.one_mul]
    by_cases hdone : (s.link l).completed ≤ p / cfg.width
    · rw [if_pos hdone] at hmoved
      refine ⟨_, hmoved, ⟨?_, h.locked, h.config, ?_, h.launched, ?_⟩, fun _ => rfl⟩
      · exact h.law.completeSlot h.locked h.config hdone (by rw [h.launched]; omega) rfl
      · simp only [Link.completeAt, h.launched, if_true, ← hp, Nat.add_sub_cancel]
      · simp [Link.completeAt]
    · rw [if_neg hdone] at hmoved
      exact ⟨_, hmoved, h, fun _ => by omega⟩
  · have hend : s.endSlotHere l = s := by simp [State.endSlotHere, h.place, hlast]
    rw [hend]
    exact ⟨_, .refl s l, h, fun hd => absurd (Nat.mod_eq_zero_of_dvd hd) hlast⟩

/-- The bit position advances inside a frame, and the slot that begins there launches: the law of the links is kept, though not in
between (R6, R13). -/
theorem State.advance_raiseDue_linkLaw (hs : s.LinkLaw) (h : (s.link l).Ended cfg p) (hp : p + 1 ≠ cfg.frameLength) :
    ((s.setLink l { s.link l with bitPos := some (p + 1) }).raiseDue l).LinkLaw := by
  obtain ⟨hw, hle, hslot, h128, hfull⟩ := h.bounds
  have hplace : ((s.setLink l { s.link l with bitPos := some (p + 1) }).link l).place = some (cfg, p + 1) := by
    rw [State.setLink_link_same, Link.place_eq_some]
    exact ⟨h.locked, h.config, rfl⟩
  have hrange := (h.law.range cfg h.config).2.1
  have hmoved : s.Moved l _ (s.setLink l { s.link l with bitPos := some (p + 1) }) := OnlyChannels.refl _ _
  by_cases hd : cfg.width ∣ p + 1
  · have hdiv : (p + 1) / cfg.width = p / cfg.width + 1 := Nat.succ_div_of_dvd hd
    have hpw : p + 1 = (p / cfg.width + 1) * cfg.width := by rw [← hdiv, Nat.div_mul_cancel hd]
    have hnext : p / cfg.width + 1 < cfg.slots := by
      refine lt_of_le_of_ne hslot fun e => hp ?_
      rw [hpw, e, LinkConfig.frameLength]
    obtain ⟨txd, hlaunch, _⟩ := (s.setLink l { s.link l with bitPos := some (p + 1) }).transmitSlot_spec (p := True) l
      (Fin.ofNat 128 (p / cfg.width + 1)) cfg
    rw [fin128_val (by omega), State.setLink_link_same] at hlaunch
    rw [State.raiseDue_launches hplace (by simp [hdiv, h.ended hd]) (by simp [hdiv, h.launched]), hdiv]
    refine (hmoved.trans hlaunch).linkLaw hs ?_ fun _ => h.locked
    have hend := h.ended hd
    exact h.law.launchSlot h.locked h.config hnext h.launched (by omega) (by omega) txd rfl
  · have hdiv : (p + 1) / cfg.width = p / cfg.width := Nat.succ_div_of_not_dvd hd
    have hopen : (s.link l).completed = p / cfg.width := by
      have hne : (s.link l).completed ≠ p / cfg.width + 1 := fun e => hd ⟨_, (hfull e).trans (Nat.mul_comm _ _)⟩
      have := h.completed
      omega
    rw [State.raiseDue_of_raised _ l cfg (p + 1) hplace (by simp [hdiv, h.launched]) (by simp [hdiv, hopen])]
    refine hmoved.linkLaw hs ?_ fun _ => h.locked
    refine ⟨h.law.configured, h.law.range, h.law.offMissed, fun hn => absurd h.locked hn, fun c _ hc => ?_, h.law.missed,
      h.law.event⟩
    obtain rfl : cfg = c := Option.some.inj (h.config.symm.trans hc)
    obtain ⟨q, hq, _, hslots, _, hin, _, _⟩ := h.law.place cfg h.locked h.config
    obtain rfl : p = q := Option.some.inj (h.bitPos.symm.trans hq)
    obtain ⟨hlo, hhi⟩ := hin (by rw [h.launched]; omega)
    have hne : p + 1 ≠ (s.link l).launched * cfg.width := fun e => hd ⟨_, e.trans (Nat.mul_comm _ _)⟩
    have hl := h.launched
    exact ⟨p + 1, rfl, by simp only; omega, hslots, by simp only; omega, fun _ => ⟨by simp only; omega, by simp only; omega⟩,
      by simp only; omega, by simp only; omega⟩

end

section
variable {p : Prop} {s : State} {l : LinkId}

theorem Keeps.raiseDue : Keeps p s (s.raiseDue l) := by
  refine (s.raiseDue_rest l).keeps fun k => ?_
  cases hp : (s.link l).place with
  | none =>
    have : s.raiseDue l = s := by simp [State.raiseDue, hp]
    rwa [this]
  | some place =>
    obtain ⟨cfg, n⟩ := place
    obtain ⟨x, hmoved, hraised⟩ := State.raiseDue_raised (k l).1 hp
    exact hmoved.linkLaw k hraised.law fun _ => hraised.locked

/-- The link as a bit clock finds it: OFF or HUNTING as it was, or LOCKED with every event raised up to the bit position. -/
theorem State.clocked_cases (h : (s.link l).Law) :
    (s.raiseDue l).endSlotHere l = s ∧ (s.link l).state ≠ .locked
    ∨ ∃ cfg n x, s.Moved l x ((s.raiseDue l).endSlotHere l) ∧ x.Ended cfg n := by
  cases hp : (s.link l).place with
  | none =>
    have hst : (s.link l).state ≠ .locked := by
      intro hst
      obtain ⟨cfg, hc⟩ := Option.isSome_iff_exists.mp (h.configured (by rw [hst]; decide))
      obtain ⟨n, hn, _⟩ := h.place cfg hst hc
      rw [(Link.place_eq_some _ _ _).mpr ⟨hst, hc, hn⟩] at hp
      cases hp
    exact .inl ⟨by rw [s.raiseDue_of_not_locked l hst, s.endSlotHere_of_not_locked l hst], hst⟩
  | some place =>
    obtain ⟨cfg, n⟩ := place
    obtain ⟨x, hmoved, hraised⟩ := State.raiseDue_raised h hp
    obtain ⟨y, hmoved', hended⟩ := State.endSlotHere_ended (hmoved.link.symm ▸ hraised)
    exact .inr ⟨cfg, n, y, hmoved.trans hmoved', hended⟩

theorem Keeps.endSlotHere : Keeps p s ((s.raiseDue l).endSlotHere l) := by
  refine ((s.raiseDue_rest l).trans ((s.raiseDue l).endSlotHere_rest l)).keeps fun k => ?_
  rcases State.clocked_cases (k l).1 with ⟨e, _⟩ | ⟨cfg, n, x, hmoved, hended⟩
  · rwa [e]
  · exact hmoved.linkLaw k hended.law fun _ => hended.locked

theorem Link.Ended.sampled {x : Link} {cfg : LinkConfig} {n : Nat} (h : x.Ended cfg n) (b : BitClock) : (x.sampled b).Ended cfg n :=
  ⟨⟨h.law.sampled b, h.locked, h.config, h.bitPos, h.launched, h.completed⟩, h.ended⟩

theorem Keeps.sampled (b : BitClock) : Keeps p s (s.setLink l ((s.link l).sampled b)) :=
  .setLink (fun k => (k l).1.sampled b) id

/-- What a bit clock makes of a LOCKED link, and the launch of the slot that it begins. -/
theorem Keeps.advance_raiseDue {u : State} (pulse : Bool) (hu : Keeps p u s)
    (h : u.LinkLaw → (s.link l).state = .locked → ∃ cfg n, (s.link l).Ended cfg n) :
    Keeps p u ((s.advance l pulse).raiseDue l) := by
  unfold State.advance
  split
  · next cfg n hp =>
    obtain ⟨hst, hcfg, hpos⟩ := (Link.place_eq_some _ _ _).mp hp
    split
    · split
      · exact hu.trans (Keeps.frameBoundaryOut.trans .raiseDue)
      · split
        · exact hu.trans (Keeps.syncOnTime.trans .raiseDue)
        · split
          · exact hu.trans (Keeps.freewheel.trans .raiseDue)
          · exact hu.trans (Keeps.linkLoss.trans .raiseDue)
    · next hlast =>
      split
      · exact hu.trans (Keeps.slip.trans .raiseDue)
      · refine (hu.rest.trans ((KeepsRest.setLink p s l _).trans (State.raiseDue_rest _ l))).keeps fun k => ?_
        obtain ⟨c, m, hended⟩ := h k hst
        obtain rfl : cfg = c := Option.some.inj (hcfg.symm.trans hended.config)
        obtain rfl : n = m := Option.some.inj (hpos.symm.trans hended.bitPos)
        exact State.advance_raiseDue_linkLaw (hu.link k) hended hlast
  · exact hu.trans .raiseDue

theorem Keeps.bitClock (b : BitClock) : Keeps p s (s.bitClock b) := by
  unfold State.bitClock
  split
  · exact .refl p s
  · have hsampled : Keeps p s (((s.raiseDue b.link).endSlotHere b.link).setLink b.link
        ((((s.raiseDue b.link).endSlotHere b.link).link b.link).sampled b)) := Keeps.endSlotHere.trans (.sampled b)
    simp only []
    split
    · exact hsampled.trans .raiseDue
    · split
      · exact hsampled.trans (Keeps.lockLink.trans .raiseDue)
      · exact hsampled.trans .raiseDue
    · refine .advance_raiseDue _ hsampled fun k hst => ?_
      rw [State.setLink_link_same] at hst ⊢
      rcases State.clocked_cases (k b.link).1 with ⟨e, hn⟩ | ⟨cfg, n, x, hmoved, hended⟩
      · rw [e] at hst
        exact absurd hst hn
      · exact ⟨cfg, n, by rw [hmoved.link]; exact hended.sampled b⟩

end

end Sys2Proof.Machine
end

section
/-! SUPPORT. What the rows of the command queue, of the register window, of the Memory Port and of the Completion Writer keep. -/

set_option Elab.async false

namespace Sys2Proof.Machine

/-! ## Single parts put back -/

section
variable {p : Prop} {s : State}

theorem Keeps.setPort {q : Port} (h : s.PortLaw → (s.setPort q).PortLaw) : Keeps p s (s.setPort q) where
  port := h
  link k := k
  use _ k := ⟨fun w => (k.use w).trans (State.holders_congr (s := s) (t := s.setPort q) rfl rfl w).symm, k.retiring, k.closed,
    k.transfer, k.unloaded⟩
  room k := k
  window k := k
  phase k := k
  coal k := ⟨k.count, k.time, k.below, k.timer, k.elapsed⟩
  addr k := k
  quiet k := k

/-- The Command Processor, the waiting requests and the interrupts change alone. -/
theorem Keeps.setCmd {x : CmdProc} (h : p → s.UseLaw → s.transfer.isSome → x.state = .taking ∨ x.state = .stopped) :
    Keeps p s (s.setCmd x) :=
  Books.keeps ⟨rfl, rfl, rfl, rfl, rfl, rfl, rfl, rfl, rfl, rfl, rfl, rfl, rfl⟩ h

theorem Keeps.setWriter {x : Writer} (hq : x.queue = s.writer.queue) (hi : x.writeIndex = s.writer.writeIndex)
    (hp : x.phase = s.writer.phase) : Keeps p s (s.setWriter x) :=
  Books.keeps_same ⟨rfl, rfl, rfl, rfl, rfl, rfl, rfl, rfl, rfl, rfl, hq, hi, hp⟩ rfl

theorem Keeps.setCause (x : Irq) : Keeps p s (s.setCause x) :=
  Books.keeps_same ⟨rfl, rfl, rfl, rfl, rfl, rfl, rfl, rfl, rfl, rfl, rfl, rfl, rfl⟩ rfl

theorem Keeps.setMask (x : Irq) : Keeps p s (s.setMask x) :=
  Books.keeps_same ⟨rfl, rfl, rfl, rfl, rfl, rfl, rfl, rfl, rfl, rfl, rfl, rfl, rfl⟩ rfl

theorem Keeps.setFreeBytes (n : Nat) : Keeps p s (s.setFreeBytes n) :=
  Books.keeps_same ⟨rfl, rfl, rfl, rfl, rfl, rfl, rfl, rfl, rfl, rfl, rfl, rfl, rfl⟩ rfl

theorem Keeps.setPending (x : List Instr) : Keeps p s (s.setPending x) :=
  Books.keeps_same ⟨rfl, rfl, rfl, rfl, rfl, rfl, rfl, rfl, rfl, rfl, rfl, rfl, rfl⟩ rfl

theorem Keeps.setClocks (x : List BitClock) : Keeps p s (s.setClocks x) :=
  Books.keeps_same ⟨rfl, rfl, rfl, rfl, rfl, rfl, rfl, rfl, rfl, rfl, rfl, rfl, rfl⟩ rfl

theorem Keeps.presentCpl : Keeps p s s.presentCpl :=
  s.presentCpl_books.1.keeps_same (congrArg _ s.presentCpl_books.2)

theorem Keeps.setCoal {x : Coalescer} (h : s.CoalescerLaw → (s.setCoal x).CoalescerLaw) : Keeps p s (s.setCoal x) :=
  Aside.keeps ⟨rfl, rfl, rfl, rfl, rfl, rfl, id, id, h, id, fun _ k => k.transfer, fun _ k => k.unloaded⟩

/-- The device goes on to a state in which nothing more is asked of a pending swap, of the timer and of a list transfer. -/
theorem Keeps.setDevice {x : Device}
    (hlink : x.state ≠ .faulted → x.state ≠ .resetting → s.device.state ≠ .faulted ∧ s.device.state ≠ .resetting)
    (hcoal : x.state ≠ .resetting → s.device.state ≠ .resetting)
    (haddr : s.AddressLaw → (s.setDevice x).AddressLaw)
    (hload : x.state = .off ∨ x.state = .loading → s.device.state = .off ∨ s.device.state = .loading) :
    Keeps p s (s.setDevice x) :=
  Aside.keeps ⟨rfl, rfl, rfl, rfl, rfl, rfl,
    fun k l => ⟨(k l).1, (k l).2.1, fun hp hf hr => (k l).2.2 hp (hlink hf hr).1 (hlink hf hr).2⟩,
    id, fun k => ⟨k.count, k.time, k.below, fun h => k.timer (hcoal h), k.elapsed⟩, haddr, fun _ k => k.transfer,
    fun _ k h => k.unloaded (hload h)⟩

end

/-! ## The part at its reset values -/

/-- Every block but Device Control is at its reset values, and Device Control is in OFF. -/
structure State.Blank (s : State) : Prop where
  links : s.links = State.reset.links
  maps : s.maps = State.reset.maps
  transfer : s.transfer = none
  chans : s.chans = State.reset.chans
  windows : s.windows = State.reset.windows
  port : s.port = Port.reset
  writer : s.writer = Writer.reset
  coal : s.coal = Coalescer.reset
  state : s.device.state = .off
  loadAddr : s.device.loadAddr = none

section
variable {s : State} (h : s.Blank)
include h

theorem State.Blank.link (l : LinkId) : s.link l = Link.reset := by simp [State.link, h.links, State.reset]
theorem State.Blank.map (l : LinkId) : s.map l = SlotMap.reset := by simp [State.map, h.maps, State.reset]
theorem State.Blank.chan (c : ChanId) : s.chan c = Channel.reset := by simp [State.chan, h.chans, State.reset]
theorem State.Blank.window (w : WinId) : s.window w = Window.reset := by simp [State.window, h.windows, State.reset]

theorem State.Blank.portLaw : s.PortLaw := by
  intro c
  simp [h.port, Port.data, Port.desc, Port.entriesOf, Port.entry, Port.reset]

omit h in
theorem Link.reset_law : Link.reset.Law :=
  .of_not_locked (by decide) (fun h => absurd rfl h) (fun _ h => by cases h) (fun _ => rfl) ⟨rfl, rfl⟩ (Nat.zero_le _)
    fun _ h => by cases h

theorem State.Blank.linkLaw : s.LinkLaw := by
  intro l
  rw [h.link, h.map]
  exact ⟨Link.reset_law, nofun, nofun⟩

theorem State.Blank.useLaw : s.UseLaw where
  use w := by
    rw [State.holders_eq, h.window, h.transfer]
    simp only [h.chan]
    simp [Channel.refs, Channel.reset, transferRefs, Window.reset]
  retiring c r hr := by rw [h.chan] at hr; cases hr
  closed c _ := by rw [h.chan]; exact ⟨rfl, rfl⟩
  transfer hs := by rw [h.transfer] at hs; cases hs
  unloaded _ := h.transfer

theorem State.Blank.roomLaw : s.RoomLaw := by
  intro c
  rw [h.chan]
  decide

theorem State.Blank.windowLaw : s.WindowLaw := by
  intro w
  rw [h.window]
  exact ⟨nofun, fun _ => ⟨rfl, rfl, rfl, rfl⟩⟩

theorem State.Blank.phaseLaw : s.PhaseLaw := by
  intro q hq
  rw [h.writer] at hq
  cases hq

theorem State.Blank.coalescerLaw : s.CoalescerLaw := by
  constructor <;> rw [h.coal]
  · decide
  · decide
  · decide
  · intro _; decide
  · nofun

theorem State.Blank.quiet : s.Quiet := by
  intro c
  rw [h.chan]
  nofun

theorem Keeps.blank {p : Prop} {u : State} (haddr : u.AddressLaw → s.AddressLaw) : Keeps p u s where
  port _ := h.portLaw
  link _ := h.linkLaw
  use _ _ := h.useLaw
  room _ := h.roomLaw
  window _ := h.windowLaw
  phase _ := h.phaseLaw
  coal _ := h.coalescerLaw
  addr := haddr
  quiet _ := h.quiet

end

/-! ## Commands at their take -/

theorem State.atTake_spec {s u : State} {r : List Byte} (h : s.atTake = some (r, u)) :
    u.device.state = .running ∧ u.cmd.state = .taking ∧ (s.UseLaw → u.transfer = none) ∧ Keeps s.UseLaw s u := by
  unfold State.atTake at h
  split at h
  · cases h
  · split at h
    · cases h
    · next hrun =>
      have hrun : s.device.state = .running := by simpa [State.running] using hrun
      split at h
      · next ht =>
        obtain ⟨rfl, rfl⟩ := Prod.mk.inj (Option.some.inj h)
        exact ⟨hrun, ht.1, fun _ => by simpa using ht.2.2, .refl _ _⟩
      · split at h
        · next hw =>
          obtain ⟨rfl, rfl⟩ := Prod.mk.inj (Option.some.inj h)
          refine ⟨hrun, rfl, fun k => ?_, .grantReservation⟩
          by_contra hne
          have := k.transfer (Option.isSome_iff_ne_none.mpr hne)
          rw [hw.1] at this
          simp at this
        · cases h

theorem Keeps.take {s : State} {k : CmdKind} {owner : List Byte → State → State}
    (howner : ∀ r u, u.device.state = .running → u.cmd.state = .taking → (s.UseLaw → u.transfer = none) →
      Keeps s.UseLaw u (owner r u)) : Keeps s.UseLaw s (s.take k owner) := by
  unfold State.take
  split
  · next r u h =>
    obtain ⟨hrun, hcmd, hn, hk⟩ := State.atTake_spec h
    exact .ite (fun _ => hk.trans (howner r u hrun hcmd hn)) fun _ => .refl _ _
  · exact .refl _ _

/-- A command completes at the end of what it does. -/
theorem Keeps.done {p : Prop} {s t : State} (h : Keeps p s t) (hn : p → t.transfer = none) (x : Completion) :
    Keeps p s (t.complete x) := h.trans (.complete hn x)

section
variable {p : Prop} {s : State} (r : List Byte) (hn : p → s.transfer = none)
include hn

theorem Keeps.configureLink : Keeps p s (s.configureLink r) := by
  unfold State.configureLink
  split
  · exact .complete hn _
  · next l _ =>
    refine .ite (fun _ => .complete hn _) fun hoff => ?_
    have hoff : (s.link l).state = .off := not_not.mp hoff
    split
    · exact .complete hn _
    · next cfg hcfg =>
      refine .ite (fun _ => ?_) fun _ => .complete hn _
      have hlink : Keeps p s (s.setLink l { s.link l with config := some cfg }) :=
        .setLink (fun k => (k l).1.configure hoff hcfg) id
      exact (hlink.trans (.setMap (by simp) (by simp))).done hn _

theorem Keeps.startLink : Keeps p s (s.startLink r) := by
  unfold State.startLink
  split
  · exact .complete hn _
  · next l _ =>
    refine .ite (fun _ => .ite (fun _ => .complete hn _) fun hoff => ?_) fun _ => .complete hn _
    have hoff : (s.link l).state = .off := not_not.mp hoff
    split
    · exact .complete hn _
    · next role hrole =>
      have hlink : Keeps p s (s.setLink l ((s.link l).started role)) :=
        .setLink (fun k => (k l).1.started hoff hrole) fun hl => by rw [hoff] at hl; cases hl
      exact hlink.done hn _

theorem Keeps.stopLink : Keeps p s (s.stopLink r) := by
  unfold State.stopLink
  split
  · exact .complete hn _
  · next l _ =>
    refine .ite (fun _ => ?_) fun _ => .complete hn _
    split
    · exact .complete hn _
    · next hst =>
      have hlink : Keeps p s (s.setLink l (s.link l).stopped) :=
        .setLink (fun k => (k l).1.stopped) fun hl => by rw [hst] at hl; cases hl
      exact hlink.done hn _
    · refine Keeps.stopLocked.done (fun hp => ?_) _
      have hf := (s.performPending_framed l .stop).1
      exact (State.notify_only _ _ _).transfer.trans (hf.transfer.trans (hn hp))

theorem Keeps.mapCommand {k : CmdKind} {own : Bool} {act : LinkId → State → State} (h : ∀ l, Keeps p s (act l s)) :
    Keeps p s (State.mapCommand k own act r s) := by
  unfold State.mapCommand
  split
  · exact .complete hn _
  · split
    · exact .complete hn _
    · exact h _

theorem Keeps.beginTransfer {w : WinId} {t : ListTransfer} (ht : t.window = w) (hd : s.device.state = .running)
    (hc : s.cmd.state = .taking) : Keeps p s (s.beginTransfer w t) where
  port k := k
  link k := k
  use hp k := by
    refine .of_uses (fun v => ?_) k.lawful (fun _ => .inl hc) fun h => by
      have h : s.device.state = .off ∨ s.device.state = .loading := h
      simp [hd] at h
    have hu := k.uses.claim (w := w) v
    rw [State.holders_eq] at hu ⊢
    have hnew : (s.beginTransfer w t).transfer = some t := rfl
    have hold : (s.claim w).transfer = none := hn hp
    rw [hnew]
    rw [hold] at hu
    have hsum : ∑ c, ((s.beginTransfer w t).chan c).refs v = ∑ c, ((s.claim w).chan c).refs v := rfl
    rw [hsum]
    refine Eq.trans hu ?_
    by_cases e : w = v <;> simp [transferRefs, ht, e]
  room k := k
  window k v := by
    have h : (s.beginTransfer w t).window v = (s.claim w).window v := rfl
    rw [h, State.claim, State.setWindow_window]
    split
    · next e => exact ⟨(e ▸ (k v)).enabled, (e ▸ (k v)).disabled⟩
    · exact k v
  phase k := k
  coal k := ⟨k.count, k.time, k.below, k.timer, k.elapsed⟩
  addr k := k
  quiet k := k

theorem Keeps.writeSlotMap (hd : s.device.state = .running) (hc : s.cmd.state = .taking) : Keeps p s (s.writeSlotMap r) := by
  refine .mapCommand r hn fun l => ?_
  simp only []
  split
  · exact .complete hn _
  · exact .beginTransfer hn rfl hd hc

theorem Keeps.readSlotMap (hd : s.device.state = .running) (hc : s.cmd.state = .taking) : Keeps p s (s.readSlotMap r) := by
  refine .mapCommand r hn fun l => ?_
  split
  · exact .complete hn _
  · exact .beginTransfer hn rfl hd hc

theorem Keeps.copySlotMap : Keeps p s (s.copySlotMap r) :=
  .mapCommand r hn fun l => (Keeps.setMap (l := l) (m := { s.map l with standby := (s.map l).active }) rfl rfl).done hn _

theorem Keeps.swapSlotMap : Keeps p s (s.swapSlotMap r) := by
  refine .mapCommand r hn fun l => ?_
  split
  · exact .complete hn _
  · split
    · exact .complete hn _
    · refine .ite (fun hl => ?_) fun _ => ?_
      · have hmap : Keeps p s (s.setMap l { s.map l with swapPending := true, swapTag := some (cmdTag r) }) :=
          (s.setMap_framed l _).keeps fun k => ⟨(k l).1, by simp, fun _ _ _ => hl⟩
        exact hmap.trans (.finishTaking hn)
      · obtain ⟨hf, hlink, hm⟩ := s.swapBanks_framed l .take (cmdTag r)
        have hswap : Keeps p s (s.swapBanks l .take (cmdTag r)) := hf.keeps fun k => .of_not_pending (hlink ▸ (k l).1) hm
        exact hswap.trans (.finishTaking fun hp => hf.transfer.trans (hn hp))

end

end Sys2Proof.Machine
end

section
/-! SUPPORT. What the channel commands, Device Control, the Memory Port and the Completion Writer keep. -/

set_option Elab.async false

namespace Sys2Proof.Machine

/-! ## Channel commands -/

theorem Channel.opened_lawful (cfg : ChanConfig) (w : WinId) : (Channel.opened cfg w).Lawful :=
  ⟨by simp [Channel.opened, Channel.reset], by simp [Channel.opened]⟩

section
variable {p : Prop} {s : State} (r : List Byte) (hn : p → s.transfer = none)
include hn

omit hn in
theorem Keeps.opened {c : ChanId} {w : WinId} (cfg : ChanConfig) (hclosed : (s.chan c).state = .closed) :
    Keeps p s ((s.claim w).setChan c (Channel.opened cfg w)) where
  port k := k
  link k := k
  use _ k := by
    have hlaw : ((s.claim w).setChan c (Channel.opened cfg w)).Lawful := State.Lawful.setChan (s := s.claim w) k.lawful
      (Channel.opened_lawful cfg w)
    have hold (v : WinId) : ((s.claim w).chan c).refs v = 0 := by
      show (s.chan c).refs v = 0
      simp [Channel.refs, hclosed, (k.closed c hclosed).1]
    have huses : ((s.claim w).setChan c (Channel.opened cfg w)).Uses [] := by
      refine State.Uses.setChan (State.Uses.claim (w := w) k.uses) fun v => ?_
      rw [hold]
      by_cases e : w = v <;> simp [Channel.refs, Channel.opened, Channel.reset, e]
    exact .of_uses huses hlaw k.transfer k.unloaded
  room k := by
    have hnew : (Channel.opened cfg w).Room := by simp [Channel.Room, Channel.opened, Channel.reset]
    intro d
    rw [State.setChan_chan]
    split
    · exact hnew
    · exact k d
  window k v := by
    have h : ((s.claim w).setChan c (Channel.opened cfg w)).window v = (s.claim w).window v := rfl
    rw [h, State.claim, State.setWindow_window]
    split
    · next e => exact ⟨(e ▸ (k v)).enabled, (e ▸ (k v)).disabled⟩
    · exact k v
  phase k := k
  coal k := ⟨k.count, k.time, k.below, k.timer, k.elapsed⟩
  addr k := k
  quiet k := by
    intro d
    rw [State.setChan_chan]
    split
    · nofun
    · exact k d

theorem Keeps.openChannel : Keeps p s (s.openChannel r) := by
  unfold State.openChannel
  split
  · exact .complete hn _
  · next c _ =>
    refine .ite (fun _ => ?_) fun _ => .complete hn _
    split
    case h_5 hclosed =>
      unfold State.openClosed
      split
      · exact .complete hn _
      · refine .ite (fun _ => .complete hn _) fun _ => ?_
        split
        · exact .complete hn _
        · exact (Keeps.opened _ hclosed).done hn _
    all_goals exact .complete hn _

omit hn in
theorem State.closeRefusal_none {s : State} {c : ChanId} {mode : CloseMode} (h : s.closeRefusal c mode = none) :
    (s.chan c).state ≠ .closed := by
  intro hc
  simp [State.closeRefusal, hc] at h

theorem Keeps.closeChannel (hd : s.device.state = .running) : Keeps p s (s.closeChannel r) := by
  unfold State.closeChannel
  split
  · exact .complete hn _
  · next c _ =>
    split
    · exact .complete hn _
    · next mode _ =>
      refine .ite (fun _ => ?_) fun _ => .complete hn _
      split
      · exact .complete hn _
      · next href =>
        have hupdate : Keeps p s (s.update c ((s.chan c).close mode (cmdTag r))) :=
          .update (Channel.close_conserves _ _ _ (State.closeRefusal_none href)) (Channel.close_noMore _ _ _).room
            fun h => by rw [hd] at h; cases h
        exact hupdate.trans (.finishTaking fun hp => (s.update_only (· = c) c _ rfl).transfer.trans (hn hp))

theorem Keeps.resumeChannel (hd : s.device.state = .running) : Keeps p s (s.resumeChannel r) := by
  unfold State.resumeChannel
  split
  · exact .complete hn _
  · next c _ =>
    refine .ite (fun _ => .ite (fun hhalted => ?_) fun _ => .complete hn _) fun _ => .complete hn _
    have hupdate : Keeps p s (s.update c ((s.chan c).resumed, [])) :=
      .update (Channel.resumed_conserves _ hhalted) id fun h => by rw [hd] at h; cases h
    exact hupdate.done (fun hp => (s.update_only (· = c) c _ rfl).transfer.trans (hn hp)) _

theorem Keeps.queryChannel : Keeps p s (s.queryChannel r) := by
  unfold State.queryChannel
  split
  · exact .complete hn _
  · exact .ite (fun _ => .ite (fun _ => .complete hn _) fun _ => .complete hn _) fun _ => .complete hn _

end

/-! ## Windows and the coalescer -/

theorem Window.setTo_law {w : Window} {r : List Byte} (h : ¬ (enableBit r = true ∧ (!(windowRangeOk (u64At r 24) (u64At r 32))) = true)) :
    (w.setTo r).Law := by
  by_cases he : enableBit r = true
  · rw [Window.setTo_enabled he]
    refine ⟨fun _ => ?_, nofun⟩
    obtain ⟨hb, hl, hle⟩ := (windowRangeOk_iff _ _).mp (by simpa [he] using h)
    exact ⟨hb, by show ((u64At r 32).toNat + 1) % 4096 = 0; omega, hle⟩
  · rw [Window.setTo_disabled he]
    exact ⟨nofun, fun _ => ⟨rfl, rfl, rfl, rfl⟩⟩

theorem Keeps.setWindow {p : Prop} {s : State} {w : WinId} {x : Window} (hx : x.Law) (huse : x.use = (s.window w).use) :
    Keeps p s (s.setWindow w x) where
  port k := k
  link k := k
  use _ k := ⟨fun v => by
      have h : ((s.setWindow w x).window v).use = (s.window v).use := by
        rw [State.setWindow_window]
        split
        · next e => rw [huse, e]
        · rfl
      rw [h, k.use v]
      exact (State.holders_congr (s := s) (t := s.setWindow w x) rfl rfl v).symm,
    k.retiring, k.closed, k.transfer, k.unloaded⟩
  room k := k
  window k v := by
    rw [State.setWindow_window]
    split
    · exact hx
    · exact k v
  phase k := k
  coal k := ⟨k.count, k.time, k.below, k.timer, k.elapsed⟩
  addr k := k
  quiet k := k

end Sys2Proof.Machine
end

section
/-! SUPPORT. What the coalescer, Device Control, the Memory Port and the Completion Writer keep. -/

set_option Elab.async false

namespace Sys2Proof.Machine

/-! ## The coalescer (R117, R118) -/

section
variable {p : Prop} {s : State}

theorem Keeps.fire : Keeps p s s.fire := by
  have hcoal : Keeps p s (s.setCoal { s.coal with counter := 0, timer := none }) :=
    .setCoal fun k => ⟨k.count, k.time, k.count.1, fun _ => by simp, nofun⟩
  exact hcoal.trans (.setCause _)

/-- The timer and the counter as the law of the coalescer has them, in a device state other than RESETTING. -/
theorem State.CoalescerLaw.timer_iff (h : s.CoalescerLaw) (hd : s.device.state ≠ .resetting) :
    s.coal.timer.isSome ↔ 0 < s.coal.counter := h.timer hd

theorem Keeps.countEntry : Keeps p s s.countEntry := by
  unfold State.countEntry
  refine .ite (fun _ => .fire) fun hcount => .setCoal fun k => ?_
  have hbelow := k.below
  refine ⟨k.count, k.time, by simp only [State.setCoal_coal]; omega, fun hd => ?_, fun e => ?_⟩
  · have := k.timer hd
    by_cases h0 : s.coal.counter = 0
    · simp [h0]
    · simp [h0, this, Nat.pos_of_ne_zero h0]
  · by_cases h0 : s.coal.counter = 0
    · simp only [State.setCoal_coal, h0, if_true, Option.some.injEq]
      omega
    · simpa [h0] using k.elapsed e

theorem Keeps.tick : Keeps p s s.tick := by
  unfold State.tick
  split
  · exact .refl _ _
  · next e he =>
    refine .ite (fun _ => .fire) fun hnot => .setCoal fun k => ⟨k.count, k.time, k.below, fun hd => ?_, fun x hx hne => ?_⟩
    · simpa [he] using k.timer hd
    · obtain rfl := Option.some.inj hx
      have hlt := k.elapsed e he hne
      have hnext : e + 1 ≠ s.coal.time := fun h => hnot ⟨hne, h⟩
      show e + 1 < s.coal.time
      omega

theorem Keeps.setThresholds {count time : Nat} (hcount : 1 ≤ count ∧ count ≤ 255) (htime : time ≤ 65535)
    (hd : s.device.state ≠ .resetting) : Keeps p s (s.setThresholds count time) := by
  by_cases hfire : ({ s.coal with count := count, time := time } : Coalescer).firesAfterChange = true
  · have h : s.setThresholds count time = ((s.setCoal { count := count, time := time, counter := 0, timer := none }).setCause
        { s.irqCause with completion := true }) := State.setThresholds_fires hfire
    rw [h]
    exact (Keeps.setCoal (x := { count := count, time := time, counter := 0, timer := none }) fun k =>
      ⟨hcount, htime, hcount.1, fun _ => by simp, nofun⟩).trans (.setCause _)
  · have h : s.setThresholds count time = s.setCoal { s.coal with count := count, time := time } :=
      State.setThresholds_goes_on hfire
    rw [h]
    refine .setCoal fun k => ?_
    have hnot := (not_congr (Coalescer.firesAfterChange_iff _)).mp hfire
    have hbelow : s.coal.counter < count := Nat.not_le.mp fun h => hnot (.inl h)
    refine ⟨hcount, htime, hbelow, k.timer, fun e he hne => ?_⟩
    have he : s.coal.timer = some e := he
    have hpos : 0 < s.coal.counter := (k.timer hd).mp (by rw [he]; rfl)
    exact Nat.not_le.mp fun h => hnot (.inr ⟨hpos, hne, e, he, h⟩)

end

/-! ## SET_WINDOW, SET_COALESCING, NOP and the unknown kind -/

section
variable {p : Prop} {s : State} (r : List Byte) (hn : p → s.transfer = none)
include hn

theorem Keeps.setWindowCommand : Keeps p s (s.setWindowCommand r) := by
  unfold State.setWindowCommand
  split
  · exact .complete hn _
  · refine .ite (fun _ => .complete hn _) fun _ => .ite (fun _ => .complete hn _) fun _ => .ite (fun _ => .complete hn _) fun h => ?_
    refine (Keeps.setWindow (Window.setTo_law h) ?_).done hn _
    unfold Window.setTo
    split <;> rfl

omit hn in
theorem State.setThresholds_transfer (s : State) (count time : Nat) : (s.setThresholds count time).transfer = s.transfer := by
  unfold State.setThresholds
  simp only []
  split <;> rfl

theorem Keeps.setCoalescing (hd : s.device.state = .running) : Keeps p s (s.setCoalescing r) := by
  unfold State.setCoalescing
  refine .ite (fun h => ?_) fun _ => .complete hn _
  refine (Keeps.setThresholds ⟨h.1, h.2.1⟩ ?_ (by rw [hd]; decide)).done (fun hp => ?_) _
  · have := (u16At r 18).isLt
    omega
  · exact (State.setThresholds_transfer _ _ _).trans (hn hp)

theorem Keeps.nop : Keeps p s (s.nop r) := .complete hn _

end

theorem Keeps.unknownCommand {s : State} : Keeps s.UseLaw s (match s.atTake with
    | some (r, s') => if knownKind (cmdKindByte r) then s else s'.complete (unknownDone (cmdTag r) (cmdKindByte r))
    | none => s) := by
  split
  · next r u h =>
    obtain ⟨_, _, hn, hk⟩ := State.atTake_spec h
    exact .ite (fun _ => .refl _ _) fun _ => hk.done hn _
  · exact .refl _ _

/-! ## Device faults and resets (R19, R164 to R168) -/

section
variable {p : Prop} {s : State}

/-- Where nothing is asked of a pending swap, a link may go OFF with one pending (R19, R165). -/
theorem Keeps.forceOff (h : s.device.state = .faulted ∨ s.device.state = .resetting) (l : LinkId) :
    Keeps p s (s.forceOff l) ∧ (s.forceOff l).device = s.device := by
  have hlink : Keeps p s (s.setLink l (s.link l).stopped) := (s.setLink_framed l _).keeps fun k =>
    ⟨by simpa using (k l).1.stopped, (k l).2.1, fun _ hf hr => by rcases h with e | e <;> simp [e] at hf hr⟩
  unfold State.forceOff
  split
  · exact ⟨.refl _ _, rfl⟩
  · exact ⟨hlink, rfl⟩
  · exact ⟨hlink.trans (Keeps.notify_linkDown _ _), (State.notify_only _ _ _).device⟩

theorem Keeps.forceAllOff (h : s.device.state = .faulted ∨ s.device.state = .resetting) : Keeps p s s.forceAllOff := by
  unfold State.forceAllOff
  generalize List.finRange 8 = ls
  induction ls generalizing s with
  | nil => exact .refl _ _
  | cons l ls ih =>
    obtain ⟨hk, hd⟩ := Keeps.forceOff (p := p) h l
    exact hk.trans (ih (by rwa [hd]))

/-- The Command Processor is STOPPED, the device having left OFF and LOADING: a list transfer may go on. -/
theorem Keeps.setDevice_stop {x : Device} (hx : x.state = .faulted ∨ x.state = .resetting)
    (hcoal : x.state ≠ .resetting → s.device.state ≠ .resetting) (haddr : s.AddressLaw → (s.setDevice x).AddressLaw) :
    Keeps p s ((s.setDevice x).setCmd s.cmd.stop) := by
  have hdev : Keeps p s (s.setDevice x) := .setDevice (fun hf hr => by rcases hx with e | e <;> simp [e] at hf hr) hcoal haddr
    fun h => by rcases hx with e | e <;> simp [e] at h
  exact hdev.trans (.setCmd fun _ _ _ => .inr rfl)

theorem Keeps.stopTransfer : Keeps p s s.stopTransfer :=
  Aside.keeps ⟨rfl, rfl, rfl, rfl, rfl, by
      show (s.transfer.map fun t => { t with stopped := true }).map ListTransfer.window = _
      rw [Option.map_map]
      rfl, id, id, fun k => ⟨k.count, k.time, k.below, k.timer, k.elapsed⟩, id,
    fun _ k h => k.transfer (by simpa [State.stopTransfer] using h),
    fun _ k h => by simpa [State.stopTransfer] using k.unloaded h⟩

theorem Keeps.enterFault (code : FaultCode) : Keeps p s (s.enterFault code) := by
  unfold State.enterFault
  refine .ite (fun h => ?_) fun _ => .refl _ _
  have hstop : Keeps p s ((s.setDevice { s.device with state := .faulted, fault := code }).setCmd s.cmd.stop) :=
    .setDevice_stop (.inl rfl) (fun _ => by rcases h with e | e <;> simp [e]) id
  have hcause := hstop.trans (.setCause { s.irqCause with fault := true })
  exact (hcause.trans .stopTransfer).trans (.forceAllOff (.inl rfl))

theorem State.softReset_blank (s : State) : s.softReset.Blank := ⟨rfl, rfl, rfl, rfl, rfl, rfl, rfl, rfl, rfl, rfl⟩

theorem Keeps.endReset : Keeps p s s.endReset := by
  unfold State.endReset
  exact .ite (fun _ => .blank s.softReset_blank fun k => ⟨k.1, nofun⟩) fun _ => .refl _ _

theorem State.forceAllOff_device (s : State) : s.forceAllOff.device = s.device := by
  unfold State.forceAllOff
  generalize List.finRange 8 = ls
  induction ls generalizing s with
  | nil => rfl
  | cons l ls ih =>
    rw [List.foldl_cons, ih]
    unfold State.forceOff
    split
    · rfl
    · rfl
    · exact (State.notify_only _ _ _).device

/-- The waiting requests are withdrawn and the timer stops. -/
theorem Keeps.withdraw (h : s.device.state = .resetting) :
    Keeps p s ((s.setPort s.port.withdrawAll).setCoal { s.coal with timer := none }) := by
  have hport : Keeps p s (s.setPort s.port.withdrawAll) := .setPort id
  exact hport.trans (.setCoal fun k => ⟨k.count, k.time, k.below, fun hn => absurd h hn, nofun⟩)

theorem Keeps.beginReset : Keeps p s s.beginReset := by
  have hstop : Keeps p s ((s.setDevice { s.device with state := .resetting }).setCmd s.cmd.stop) :=
    .setDevice_stop (.inr rfl) (fun h => absurd rfl h) id
  unfold State.beginReset
  refine Keeps.behind (.withdraw ?_) (hstop.trans (.forceAllOff (.inr rfl)))
  rw [State.forceAllOff_device]
  rfl

theorem Keeps.resetAction : Keeps p s s.resetAction := by
  unfold State.resetAction
  exact .ite (fun _ => .refl _ _) fun _ => Keeps.beginReset.trans .endReset

end

end Sys2Proof.Machine
end

section
/-! SUPPORT. What the writes of the register window, the grants, the responses and the admissions keep. -/

set_option Elab.async false

namespace Sys2Proof.Machine

/-! ## The register window (R159) -/

section
variable {p : Prop} {s : State}

theorem Keeps.enableAction : Keeps p s s.enableAction := by
  unfold State.enableAction
  refine .ite (fun h => ?_) fun _ => .refl _ _
  have hdev : Keeps p s (s.setDevice { s.device with state := .loading, loadAddr := some s.device.configAddr }) :=
    .setDevice (fun _ _ => by simp [h]) (fun _ => by simp [h]) (fun k => ⟨k.1, fun a ha => Option.some.inj ha ▸ k.1⟩)
      fun _ => .inl h
  exact hdev.trans (.setPort id)

theorem Keeps.setAddress {a : U64} (ha : a.toNat % 32 = 0) : Keeps p s (s.setDevice { s.device with configAddr := a }) :=
  .setDevice (fun hf hr => ⟨hf, hr⟩) id (fun k => ⟨ha, k.2⟩) id

theorem lowAddr_aligned (a : U64) (v : U32) :
    (a.extractLsb' 32 32 ++ (v.extractLsb' 5 27 ++ 0#5) : U64).toNat % 32 = 0 := by
  rw [toNat_append_eq_add, toNat_append_eq_add]
  simp only [BitVec.toNat_ofNat]
  omega

theorem highAddr_aligned (a : U64) (v : U32) (h : a.toNat % 32 = 0) :
    (v ++ a.extractLsb' 0 32 : U64).toNat % 32 = 0 := by
  rw [toNat_append_eq_add, BitVec.extractLsb'_toNat]
  omega

theorem Keeps.setAddrLow (v : U32) : Keeps p s (s.setAddrLow v) := .setAddress (lowAddr_aligned _ v)

theorem Keeps.setAddrHigh (v : U32) : Keeps p s (s.setAddrHigh v) :=
  .setDevice (fun hf hr => ⟨hf, hr⟩) id (fun k => ⟨highAddr_aligned _ v k.1, k.2⟩) id

theorem Keeps.rejectPost (k : PostKind) (c : Option ChanId) (i : U32) (r : PostReason) : Keeps p s (s.rejectPost k c i r) :=
  (s.rejectPost_books k c i r).keeps_same rfl

theorem Keeps.postTail (v : U32) : Keeps p s (s.postTail v) := by
  unfold State.postTail
  split
  · exact .refl _ _
  · refine .ite (fun _ => ?_) fun _ => .rejectPost _ _ _ _
    have htail : Keeps p s (s.setCmd { s.cmd with tail := v }) := .setCmd fun _ k => k.transfer
    refine .ite (fun hidle => htail.trans ?_) fun _ => htail
    refine (State.presentCmdRead_books _).keeps fun _ k hs => ?_
    have := k.transfer hs
    simp [hidle.1] at this

/-- An accepted post goes back with the channel (R81, R94). -/
theorem Keeps.acceptPost (c : ChanId) (index : U16) : Keeps p s (s.acceptPost c index) := by
  have hcons : (s.chan c).Conserves { s.chan c with producer := index } [] := .of_same rfl rfl rfl id
  have hmore : (s.chan c).NoMore { s.chan c with producer := index } := ⟨rfl, le_rfl, le_rfl⟩
  unfold State.acceptPost
  simp only []
  split
  · next h =>
    have e : s.setChan c { s.chan c with producer := index } = s.update c ({ s.chan c with producer := index }, []) := by
      simp [State.update, h]
    rw [e]
    exact .update hcons id fun _ => ⟨rfl, rfl⟩
  · next h =>
    exact .update (.behind (Channel.passEnd_conserves _) hcons) (hmore.trans (Channel.passEnd_noMore _)).room
      fun hr => absurd hr h

theorem Keeps.postProducer (c : ChanId) (index : U16) : Keeps p s (s.postProducer c index) := by
  unfold State.postProducer
  exact .ite (fun _ => .rejectPost _ _ _ _) fun _ => .ite (fun _ => .acceptPost _ _) fun _ => .rejectPost _ _ _ _

theorem Keeps.postHead (v : U32) : Keeps p s (s.postHead v) := by
  unfold State.postHead
  refine .ite (fun _ => .refl _ _) fun _ => .ite (fun _ => ?_) fun _ => .rejectPost _ _ _ _
  exact .behind .presentCpl (.setWriter rfl rfl rfl)

theorem Keeps.hostWrite (reg : Reg) (v : U32) : Keeps p s (s.hostWrite reg v) := by
  unfold State.hostWrite
  refine .ite (fun _ => .refl _ _) fun _ => ?_
  cases reg with
  | ctrl => exact .ite (fun _ => .enableAction) fun _ => .ite (fun _ => .resetAction) fun _ => .refl _ _
  | status => exact .refl _ _
  | configAddrLo => exact .setAddrLow v
  | configAddrHi => exact .setAddrHigh v
  | cmdqTail => exact .postTail v
  | chanPost => exact .postProducer _ _
  | cplqHead => exact .postHead v
  | irqCause => exact .setCause _
  | irqMask => exact .setMask _
  | deviceIdReg => exact .refl _ _

end

/-! ## The outstanding table (R124, R128, R129) -/

/-- A count over tags changes with one tag alone. -/
theorem length_filter_of_agree {n : Nat} (f g : Fin n → Bool) (t : Fin n) (h : ∀ i, i ≠ t → g i = f i) :
    ((List.finRange n).filter g).length + (if f t then 1 else 0) = ((List.finRange n).filter f).length + (if g t then 1 else 0) := by
  have hsum (k : Fin n → Bool) : ((List.finRange n).filter k).length = ∑ i, if k i then 1 else 0 := by
    rw [Fin.sum_univ_def]
    simpa using sum_map_add_filter (List.finRange n) k fun _ => 0
  have hrest : ∑ i ∈ Finset.univ.erase t, (if g i then 1 else 0) = ∑ i ∈ Finset.univ.erase t, (if f i then 1 else 0) :=
    Finset.sum_congr rfl fun i hi => by rw [h i (Finset.ne_of_mem_erase hi)]
  have hf := Finset.add_sum_erase Finset.univ (fun i => if f i then 1 else 0) (Finset.mem_univ t)
  have hg := Finset.add_sum_erase Finset.univ (fun i => if g i then 1 else 0) (Finset.mem_univ t)
  rw [hsum, hsum]
  omega

/-- The entry counts for the channel as a descriptor read or as a data transaction. -/
def countsFor (c : ChanId) (desc : Bool) (e : Option Transaction) : Bool :=
  match e with
  | some x => x.channel == some c && (x.cls == 3) == desc
  | none => false

theorem countsFor_some (c : ChanId) (desc : Bool) (x : Transaction) :
    countsFor c desc (some x) = true ↔ x.channel = some c ∧ (x.cls = 3 ↔ desc = true) := by
  cases desc <;> simp [countsFor]

theorem Port.entriesOf_eq (p : Port) (c : ChanId) (desc : Bool) :
    p.entriesOf c desc = ((List.finRange 16).filter fun t => countsFor c desc (p.entry t)).length := by
  refine congrArg List.length (congrArg (fun f => List.filter f _) (funext fun t => ?_))
  cases p.entry t <;> rfl

/-- An entry that changes moves the counts by what it counted and by what it counts. -/
theorem Port.entriesOf_set {p q : Port} {tag : TagId} {x : Option Transaction} (h : q.table = p.table.set tag.val x) (c : ChanId)
    (desc : Bool) : q.entriesOf c desc + (if countsFor c desc (p.entry tag) then 1 else 0)
      = p.entriesOf c desc + (if countsFor c desc x then 1 else 0) := by
  have hq (k : TagId) : q.entry k = if k = tag then x else p.entry k := by
    have := p.setEntry_entry tag k x
    rwa [Port.entry, Port.setEntry, ← h] at this
  have := length_filter_of_agree (fun t => countsFor c desc (p.entry t)) (fun t => countsFor c desc (q.entry t)) tag
    fun i hi => by simp only [hq, if_neg hi]
  rw [Port.entriesOf_eq, Port.entriesOf_eq, this, hq, if_pos rfl]

theorem Port.enter_counts (p : Port) (tag : TagId) (t : Transaction) (c : ChanId) :
    (p.enter tag t).data c = p.data c + (if countsFor c false (some t) then 1 else 0)
      ∧ (p.enter tag t).desc c = p.desc c + (if countsFor c true (some t) then 1 else 0) := by
  unfold Port.enter
  simp only []
  cases hc : t.channel with
  | none => simp [countsFor, hc]
  | some d =>
    have hchan : d = c ↔ c = d := eq_comm
    by_cases h3 : t.cls = 3 <;> by_cases e : c = d <;>
      simp [countsFor_some, hc, h3, e, hchan, Port.setData_data, Port.setDesc_desc]

/-- A transaction takes a free entry, its channel being below its limit. -/
theorem State.PortLaw.enter {s : State} {q : Port} {tag : TagId} {t : Transaction} (h : s.PortLaw)
    (hfree : s.port.entry tag = none) (hlimit : ∀ c, t.channel = some c →
      if t.cls = 3 then s.port.desc c < descLimit else s.port.data c < dataLimit)
    (htable : q.table = (s.port.enter tag t).table) (hdata : q.dataCount = (s.port.enter tag t).dataCount)
    (hdesc : q.descCount = (s.port.enter tag t).descCount) : (s.setPort q).PortLaw := by
  intro c
  obtain ⟨hd, he, hdl, hel⟩ := h c
  have hset : q.table = s.port.table.set tag.val (some t) := by
    rw [htable, Port.enter]
    split
    · rfl
    · split <;> rfl
  have hcd := Port.entriesOf_set hset c false
  have hce := Port.entriesOf_set hset c true
  rw [hfree] at hcd hce
  have hqd : q.data c = (s.port.enter tag t).data c := by rw [Port.data, Port.data, hdata]
  have hqe : q.desc c = (s.port.enter tag t).desc c := by rw [Port.desc, Port.desc, hdesc]
  show q.data c = q.entriesOf c false ∧ q.desc c = q.entriesOf c true ∧ q.data c ≤ dataLimit ∧ q.desc c ≤ descLimit
  obtain ⟨hdata', hdesc'⟩ := s.port.enter_counts tag t c
  rw [hqd, hqe, hdata', hdesc']
  have hnone (desc : Bool) : countsFor c desc none = false := rfl
  simp only [hnone, Bool.false_eq_true, if_false, Nat.add_zero] at hcd hce
  refine ⟨by rw [hcd, hd], by rw [hce, he], ?_, ?_⟩
  · by_cases hc : countsFor c false (some t) = true
    · obtain ⟨hchan, hcls⟩ := (countsFor_some _ _ _).mp hc
      have hlt := hlimit c hchan
      rw [if_neg (by simpa using hcls)] at hlt
      rw [if_pos hc]
      exact hlt
    · rwa [if_neg hc]
  · by_cases hc : countsFor c true (some t) = true
    · obtain ⟨hchan, hcls⟩ := (countsFor_some _ _ _).mp hc
      have hlt := hlimit c hchan
      rw [if_pos (by simpa using hcls)] at hlt
      rw [if_pos hc]
      exact hlt
    · rwa [if_neg hc]

theorem Port.leaveEntry_table (p : Port) (tag : TagId) (t : Transaction) :
    (p.leaveEntry tag t).table = p.table.set tag.val none := by
  rw [Port.leaveEntry_eq]
  rfl

theorem Port.leaveEntry_counts (p : Port) (tag : TagId) (t : Transaction) (c : ChanId) :
    (p.leaveEntry tag t).data c = p.data c - (if countsFor c false (some t) then 1 else 0)
      ∧ (p.leaveEntry tag t).desc c = p.desc c - (if countsFor c true (some t) then 1 else 0) := by
  unfold Port.leaveEntry
  simp only []
  cases hc : t.channel with
  | none => simp [countsFor, hc]
  | some d =>
    have hchan : d = c ↔ c = d := eq_comm
    by_cases h3 : t.cls = 3 <;> by_cases e : c = d <;>
      simp [countsFor_some, hc, h3, e, hchan, Port.setData_data, Port.setDesc_desc]

/-- An answered transaction leaves its entry (R129). -/
theorem State.PortLaw.leave {s : State} {tag : TagId} {t : Transaction} (h : s.PortLaw) (he : s.port.entry tag = some t) :
    (s.setPort (s.port.leaveEntry tag t)).PortLaw := by
  intro c
  obtain ⟨hd, hx, hdl, hxl⟩ := h c
  have hcd := Port.entriesOf_set (s.port.leaveEntry_table tag t) c false
  have hcx := Port.entriesOf_set (s.port.leaveEntry_table tag t) c true
  obtain ⟨hdata, hdesc⟩ := s.port.leaveEntry_counts tag t c
  have hnone (desc : Bool) : countsFor c desc none = false := rfl
  rw [he] at hcd hcx
  simp only [hnone, Bool.false_eq_true, if_false, Nat.add_zero] at hcd hcx
  simp only [State.setPort_port, hdata, hdesc]
  omega

/-! ## Grants (R126 to R128) -/

section
variable {p : Prop} {s : State} {tag : TagId}

theorem State.choose_running {c : Chosen} (h : s.choose = some c) (hc : c ≠ .class4 .configRead) :
    s.device.state = .running ∧ s.chooseRunning = some c := by
  unfold State.choose at h
  split at h
  · next hd => exact ⟨hd, h⟩
  · split at h
    · exact absurd (Option.some.inj h).symm hc
    · cases h
  all_goals cases h

theorem State.chooseRunning_eligible {c : Chosen} (h : s.chooseRunning = some c) :
    (∀ pr d, c = .data pr d → s.dataEligible pr d = true) ∧ ∀ d, c = .desc d → s.descEligible d = true := by
  unfold State.chooseRunning at h
  split at h
  · obtain rfl := Option.some.inj h
    exact ⟨nofun, nofun⟩
  · split at h
    · next d hd =>
      obtain rfl := Option.some.inj h
      refine ⟨fun pr x hx => ?_, nofun⟩
      injection hx with hpr hx
      exact hpr ▸ hx ▸ List.find?_some hd
    · split at h
      · next d hd =>
        obtain rfl := Option.some.inj h
        refine ⟨fun pr x hx => ?_, nofun⟩
        injection hx with hpr hx
        exact hpr ▸ hx ▸ List.find?_some hd
      · split at h
        · next d hd =>
          obtain rfl := Option.some.inj h
          refine ⟨nofun, fun x hx => ?_⟩
          injection hx with hx
          exact hx ▸ List.find?_some hd
        · obtain ⟨r, _, rfl⟩ := Option.map_eq_some_iff.mp h
          exact ⟨nofun, nofun⟩

theorem Keeps.grantCpl (hfree : s.port.entry tag = none) : Keeps p s (s.grantCpl tag) := by
  unfold State.grantCpl
  split
  · exact .behind (.setWriter rfl rfl rfl) (.setPort fun k => k.enter hfree (fun _ h => by cases h) rfl rfl rfl)
  · exact .refl _ _

theorem Keeps.grantData {pr : Priority} {c : ChanId} (hfree : s.port.entry tag = none) (hd : s.device.state = .running)
    (he : s.dataEligible pr c = true) : Keeps p s (s.grantData tag pr c) := by
  obtain ⟨⟨_, hlimit⟩, hwants⟩ : (s.port.waitData pr c = true ∧ s.port.data c < dataLimit)
      ∧ (s.chan c).wantsData (s.port.data c) = true := by simpa [State.dataEligible] using he
  have hcons := (s.chan c).dataGrant_conserves
  have hroom : (s.chan c).Room → (s.chan c).dataGrant.1.Room := Channel.dataGrant_room _ hwants
  unfold State.grantData
  split
  · exact .refl _ _
  · next ch i hg =>
    rw [hg] at hcons hroom
    refine .behind (.update hcons hroom fun hr => ?_) (.setPort fun k => ?_)
    · rw [State.setPort_device, hd] at hr
      cases hr
    · have hcls : (dataTransaction (s.chan c).cfg pr c i).cls ≠ 3 := by cases pr <;> simp [dataTransaction, Priority.cls]
      rw [Port.enter_data _ _ _ _ _ rfl hcls]
      refine k.enter hfree (fun d hchan => ?_) ?_ ?_ ?_ (t := dataTransaction (s.chan c).cfg pr c i)
      · rw [if_neg hcls]
        exact Option.some.inj hchan ▸ hlimit
      all_goals cases pr <;> rfl

theorem Keeps.grantDesc {c : ChanId} (hfree : s.port.entry tag = none) (hd : s.device.state = .running)
    (he : s.descEligible c = true) : Keeps p s (s.grantDesc tag c) := by
  obtain ⟨⟨_, hlimit⟩, hwants⟩ : (s.port.waitDesc c = true ∧ s.port.desc c < descLimit) ∧ (s.chan c).wantsDesc = true := by
    simpa [State.descEligible] using he
  unfold State.grantDesc
  refine .behind (.update (Channel.wantsDesc_conserves _ hwants) (Channel.wantsDesc_room _ hwants) fun hr => ?_) (.setPort fun k => ?_)
  · rw [State.setPort_device, hd] at hr
    cases hr
  · refine k.enter hfree (fun d hchan => ?_) rfl rfl rfl (t := (s.chan c).descTransaction c)
    exact (if_pos rfl).mpr (Option.some.inj hchan ▸ hlimit)

theorem Keeps.setTransfer {x : Option ListTransfer} (h : x.map ListTransfer.window = s.transfer.map ListTransfer.window) :
    Keeps p s (s.setTransfer x) := by
  have hsome : x.isSome = s.transfer.isSome := by
    have := congrArg Option.isSome h
    simpa using this
  exact Aside.keeps ⟨rfl, rfl, rfl, rfl, rfl, h, id, id, fun k => ⟨k.count, k.time, k.below, k.timer, k.elapsed⟩, id,
    fun _ k hs => k.transfer (hsome ▸ hs),
    fun _ k hd => by
      have := k.unloaded hd
      rw [this] at hsome
      simpa using hsome⟩

theorem Keeps.grantClass4 (r : Class4) (hfree : s.port.entry tag = none) : Keeps p s (s.grantClass4 tag r) := by
  unfold State.grantClass4
  split
  · exact .refl _ _
  · next t ht =>
    refine .behind (.setTransfer ?_) (.setPort fun k => ?_)
    · rw [Option.map_map]
      refine congrArg₂ Option.map (funext fun x => ?_) rfl
      cases r <;> rfl
    · refine k.enter hfree ?_ rfl rfl rfl (t := t)
      have hchan : t.channel = none := by
        cases r with
        | cmdRead => obtain ⟨_, _, rfl⟩ := Option.map_eq_some_iff.mp ht; rfl
        | configRead => obtain ⟨_, _, rfl⟩ := Option.map_eq_some_iff.mp ht; rfl
        | listPiece n => obtain ⟨_, _, rfl⟩ := Option.map_eq_some_iff.mp ht; rfl
      rw [hchan]
      nofun

theorem Keeps.grantChosen {g : Chosen} (hfree : s.port.FirstFree tag) (hg : s.choose = some g) :
    Keeps p s (s.grantChosen tag g) := by
  cases g with
  | cpl => exact .grantCpl hfree.1
  | data pr c =>
    obtain ⟨hd, hr⟩ := State.choose_running hg nofun
    exact .grantData hfree.1 hd ((State.chooseRunning_eligible hr).1 pr c rfl)
  | desc c =>
    obtain ⟨hd, hr⟩ := State.choose_running hg nofun
    exact .grantDesc hfree.1 hd ((State.chooseRunning_eligible hr).2 c rfl)
  | class4 r => exact .grantClass4 r hfree.1

end

end Sys2Proof.Machine
end

section
/-! SUPPORT. What the responses, the admissions and every step of the part keep. -/

set_option Elab.async false

namespace Sys2Proof.Machine

/-! ## Completion writes (R105, R107) -/

/-- PHASE inverts where the write index comes to a multiple of the size, and so where it wraps (R105, R107). -/
theorem phase_next (w : U32) {k : Nat} (hlo : 5 ≤ k) (hhi : k ≤ 16) :
    decide ((w + 1).toNat / 2 ^ k % 2 = 0)
      = if (w + 1).toNat % 2 ^ k = 0 then !decide (w.toNat / 2 ^ k % 2 = 0) else decide (w.toNat / 2 ^ k % 2 = 0) := by
  have hnext : (w + 1).toNat = (w.toNat + 1) % 2 ^ 32 := by simp [BitVec.toNat_add]
  by_cases hwrap : w.toNat + 1 = 2 ^ 32
  · have hw : w.toNat = 2 ^ 32 - 1 := by omega
    rw [hnext, hwrap, hw]
    interval_cases k <;> decide
  · have hlt : w.toNat + 1 < 2 ^ 32 := by omega
    rw [hnext, Nat.mod_eq_of_lt hlt]
    by_cases hd : 2 ^ k ∣ w.toNat + 1
    · rw [if_pos (Nat.mod_eq_zero_of_dvd hd), Nat.succ_div_of_dvd hd]
      by_cases he : w.toNat / 2 ^ k % 2 = 0
      · have : (w.toNat / 2 ^ k + 1) % 2 = 1 := by omega
        simp [he, this]
      · have : (w.toNat / 2 ^ k + 1) % 2 = 0 := by omega
        simp [he, this]
    · rw [if_neg (fun h => hd (Nat.dvd_of_mod_eq_zero h)), Nat.succ_div_of_not_dvd hd]

section
variable {p : Prop} {s : State}

/-- The written entry is off the pending list, and the write index and PHASE go on. -/
theorem Keeps.written {x : Writer} (hq : x.queue = s.writer.queue) (hi : x.writeIndex = s.writer.writeIndex + 1)
    (hp : x.phase = if (s.writer.writeIndex + 1).toNat % (s.writer.queue.map Queue.size).getD 1 = 0 then !s.writer.phase
      else s.writer.phase) : Keeps p s (s.setWriter x) :=
  Aside.keeps ⟨rfl, rfl, rfl, rfl, rfl, rfl, id, fun k q hx => by
    have hx : s.writer.queue = some q := hq ▸ hx
    obtain ⟨⟨n, hlo, hhi, hsize⟩, hphase⟩ := k q hx
    refine ⟨⟨n, hlo, hhi, hsize⟩, ?_⟩
    rw [State.setWriter_writer, hi, hp, hphase, hsize, phase_next _ hlo hhi, hx, Option.map_some, Option.getD_some, hsize],
    fun k => ⟨k.count, k.time, k.below, k.timer, k.elapsed⟩, id, fun _ k => k.transfer, fun _ k => k.unloaded⟩

theorem Keeps.cplResponse (ok : Bool) : Keeps p s (s.cplResponse ok) := by
  unfold State.cplResponse
  simp only []
  split
  · exact .behind .presentCpl (.behind .countEntry (.written rfl rfl rfl))
  · exact .behind (.enterFault _) (.setWriter rfl rfl rfl)

/-! ## The responses to data transactions and descriptor reads -/

theorem Keeps.dataAnswer (hd : s.device.state ≠ .resetting) (t : Transaction) (bytes : Option (List Byte)) (ok : Bool) :
    Keeps p s (s.dataAnswer t bytes ok) := by
  unfold State.dataAnswer
  split
  · exact .refl _ _
  · next c request lane _ =>
    have hread : (s.chan c).Conserves (match bytes with
          | some bs => (s.chan c).readData request lane bs
          | none => s.chan c) []
        ∧ (s.chan c).NoMore (match bytes with
          | some bs => (s.chan c).readData request lane bs
          | none => s.chan c) := by
      cases bytes with
      | none => exact ⟨.refl _, .refl _⟩
      | some bs => exact ⟨Channel.readData_conserves _ _ _ _, Channel.readData_noMore _ _ _ _⟩
    exact .update (hread.1.before (Channel.dataResponse_conserves _ _ _)) (hread.2.trans (Channel.dataResponse_noMore _ _ _)).room
      fun h => absurd h hd

theorem Keeps.joinDescriptor (hd : s.device.state ≠ .resetting) {c : ChanId} (ho : (s.chan c).descRead = .outstanding)
    (bytes : List Byte) : Keeps p s (s.joinDescriptor c bytes) := by
  have hpoisoned (why : HaltCause) : Keeps p s (s.update c (({ s.chan c with descRead := .none } : Channel).join
      ((descriptorOf bytes).record (s.chan c).fetch (.error why)), [])) :=
    .update (Channel.join_gains _ _ ho (Descriptor.record_state _ _ _)).conserves (Channel.join_room _ _ ho) fun h => absurd h hd
  unfold State.joinDescriptor
  refine .ite (fun _ => hpoisoned _) fun _ => ?_
  split
  · exact hpoisoned _
  · exact .claim_update (Channel.join_gains _ _ ho (Descriptor.record_state _ _ _)) (Channel.join_room _ _ ho) hd

theorem Keeps.descAnswer (hd : s.device.state ≠ .resetting) (t : Transaction) (result : ReadResult) :
    Keeps p s (s.descAnswer t result) := by
  unfold State.descAnswer
  split
  · exact .refl _ _
  · next c _ =>
    refine .ite (fun ho => ?_) fun _ => ?_
    · split
      · exact .joinDescriptor hd ho _
      · exact .update (Channel.descHalt_conserves _ ho) (Channel.descHalt_room _ ho) fun h => absurd h hd
    · obtain ⟨hcons, hmore⟩ := (s.chan c).descDropped_spec
      exact .update hcons hmore.room fun h => absurd h hd

/-! ## The responses of class 4 -/

theorem Keeps.cmdAnswer (result : ReadResult) : Keeps p s (s.cmdAnswer result) := by
  unfold State.cmdAnswer
  split
  · exact .enterFault _
  · refine .ite (fun hf => ?_) fun _ => .refl _ _
    refine .behind .grantWaiting (.setCmd fun _ k hs => ?_)
    have := k.transfer hs
    simp [hf] at this

/-- A list transfer ends: its window's reference goes (R139). -/
theorem Keeps.dropTransfer {w : WinId} (h : s.transfer.map ListTransfer.window = some w) :
    Keeps p s ((s.letGo w).setTransfer none) where
  port k := k
  link k := k
  use _ k := by
    have hdrop : (s.setTransfer none).Uses [w] := by
      intro v
      have huse := k.uses v
      rw [State.holders_eq] at huse ⊢
      have hsum : ∑ c, ((s.setTransfer none).chan c).refs v = ∑ c, (s.chan c).refs v := rfl
      have hwin : ((s.setTransfer none).window v).use = (s.window v).use := rfl
      rw [hsum, hwin, huse]
      by_cases e : w = v <;> simp [transferRefs, h, e]
    exact .of_uses (s := (s.letGo w).setTransfer none) hdrop.letGo k.lawful nofun fun _ => rfl
  room k := k
  window k v := by
    have e : ((s.letGo w).setTransfer none).window v = (s.letGo w).window v := rfl
    rw [e, State.letGo, State.setWindow_window]
    split
    · next e => exact ⟨(e ▸ (k v)).enabled, (e ▸ (k v)).disabled⟩
    · exact k v
  phase k := k
  coal k := ⟨k.count, k.time, k.below, k.timer, k.elapsed⟩
  addr k := k
  quiet k := k

theorem Keeps.transferEffect (hn : p → s.transfer = none) (t : ListTransfer) : Keeps p s (s.transferEffect t) := by
  unfold State.transferEffect
  refine .ite (fun _ => .complete hn _) fun _ => ?_
  split
  · exact .complete hn _
  · split
    · exact .complete hn _
    · exact (Keeps.setMap (l := t.link)
        (m := { s.map t.link with standby := (s.map t.link).standby.apply (wordsOf t.list) }) rfl rfl).done hn _

theorem Keeps.endTransfer {t : ListTransfer} (h : s.transfer.map ListTransfer.window = some t.window) :
    Keeps p s (s.endTransfer t) := by
  unfold State.endTransfer
  exact .ite (fun _ => .dropTransfer h) fun _ => (Keeps.dropTransfer h).trans (.transferEffect (fun _ => rfl) t)

theorem ListTransfer.answer_window (t : ListTransfer) (n : Nat) (result : ReadResult) : (t.answer n result).window = t.window := by
  cases result <;> rfl

theorem Keeps.pieceResponse (n : Nat) (result : ReadResult) : Keeps p s (s.pieceResponse n result) := by
  unfold State.pieceResponse
  split
  · exact .refl _ _
  · next t ht =>
    have hheld : Keeps p s ((s.setTransfer (some (t.answer n result))).setPort
        (if (t.answer n result).error then s.port.withdrawPieces else s.port)) := by
      refine .behind (.setPort fun k => ?_) (.setTransfer ?_)
      · exact k.congr (by split <;> rfl) (by split <;> rfl) (by split <;> rfl)
      · rw [ht, Option.map_some, Option.map_some, ListTransfer.answer_window]
    exact .ite (fun _ => hheld.trans (.endTransfer rfl)) fun _ => hheld

theorem Keeps.listAnswer (t : Transaction) (result : ReadResult) : Keeps p s (s.listAnswer t result) := by
  unfold State.listAnswer
  split
  · exact .pieceResponse _ _
  all_goals exact .refl _ _

/-- A valid configuration record: the queues and the thresholds are set, and the device runs (R163). -/
theorem Keeps.loaded {bytes : List Byte} (hd : s.device.state = .loading) (hv : (configRecordOf bytes).valid = true) :
    Keeps p s (s.loaded (configRecordOf bytes)) := by
  simp only [ConfigRecord.valid, Bool.and_eq_true, decide_eq_true_eq] at hv
  obtain ⟨⟨⟨⟨_, hlog⟩, _⟩, _⟩, hcount⟩ := hv
  have htime : (configRecordOf bytes).time ≤ 65535 := by
    have := (u16At bytes 22).isLt
    simp only [configRecordOf]
    omega
  exact Aside.keeps {
    chans := rfl, windows := rfl, table := rfl, data := rfl, desc := rfl, held := rfl
    link := fun k l => ⟨(k l).1, (k l).2.1, fun hp _ _ => (k l).2.2 hp (by simp [hd]) (by simp [hd])⟩
    phase := fun _ q hq => by
      obtain rfl := Option.some.inj hq
      exact ⟨⟨_, hlog.1, hlog.2, rfl⟩, by simp [State.loaded]⟩
    coal := fun _ => ⟨hcount, htime, hcount.1, fun _ => by simp [State.loaded], nofun⟩
    addr := fun k => ⟨k.1, nofun⟩
    cmd := fun _ k hs => by
      have := k.unloaded (.inr hd)
      have hs : s.transfer.isSome := hs
      simp [this] at hs
    unloaded := fun _ _ h => by
      have h : DevState.running = .off ∨ DevState.running = .loading := h
      simp at h }

theorem Keeps.configResponse (result : ReadResult) : Keeps p s (s.configResponse result) := by
  have hended : Keeps p s (s.setDevice { s.device with loadAddr := none }) :=
    .setDevice (fun hf hr => ⟨hf, hr⟩) id (fun k => ⟨k.1, nofun⟩) id
  unfold State.configResponse
  simp only []
  split
  · exact hended.trans (.enterFault _)
  · exact .ite (fun h => .loaded h.1 h.2) fun _ => hended.trans (.enterFault _)

/-! ## Every response -/

theorem Keeps.readWhole {t : Transaction} {answer : ReadResult} {owner : State → ReadResult → State}
    (h : ∀ u a, u.device = s.device → Keeps p u (owner u a)) : Keeps p s (s.readWhole t answer owner) :=
  (Keeps.setFreeBytes _).trans (h _ _ rfl)

theorem Keeps.readAnswer (hd : s.device.state ≠ .resetting) (t : Transaction) (answer : ReadResult) :
    Keeps p s (s.readAnswer t answer) := by
  cases answer with
  | okay bytes => exact .dataAnswer hd t (some bytes) true
  | error => exact .dataAnswer hd t none false

theorem Keeps.deliver (hd : s.device.state ≠ .resetting) (t : Transaction) (answer : ReadResult) :
    Keeps p s (s.deliver t answer) := by
  unfold State.deliver
  split
  · exact .cplResponse _
  · exact .dataAnswer hd _ _ _
  · exact .readWhole fun u a hu => .readAnswer (by rw [hu]; exact hd) t a
  · exact .readWhole fun u a hu => .descAnswer (by rw [hu]; exact hd) t a
  · exact .readWhole fun u a _ => .cmdAnswer a
  · exact .readWhole fun u a _ => .listAnswer t a
  · exact .listAnswer _ _
  · exact .readWhole fun u a _ => .configResponse a

theorem Keeps.respond (tag : TagId) (answer : ReadResult) : Keeps p s (s.respond tag answer) := by
  unfold State.respond
  split
  · exact .refl _ _
  · next t ht =>
    have hleft : Keeps p s (s.setPort (s.port.leaveEntry tag t)) := .setPort fun k => k.leave ht
    by_cases hd : s.device.state = .resetting
    · rw [if_pos hd]
      exact hleft.trans .endReset
    · rw [if_neg hd]
      refine .behind (.deliver ?_ t answer) hleft
      rw [State.setPort_device]
      exact hd

/-! ## Admissions and the coalescer's events -/

/-- The completion of a channel is delivered, and a pass-end decision that waits is made again (R92, R94). -/
theorem Keeps.deliverFrom (hd : s.device.state ≠ .resetting) (c : ChanId) :
    Keeps p s ((s.setWriter { s.writer with pointer := c }).update c ((s.chan c).delivered.passEnd, [])) := by
  have hcons := (Channel.passEnd_conserves (s.chan c).delivered).behind (s.chan c).delivered_conserves
  have hmore := (s.chan c).delivered_noMore.trans (Channel.passEnd_noMore _)
  refine .behind (.update hcons hmore.room fun hr => ?_) (.setWriter rfl rfl rfl)
  rw [State.setWriter_device] at hr
  exact absurd hr hd

theorem Keeps.admitOne (hd : s.device.state = .running) (x : Candidate) : Keeps p s (s.admitOne x) := by
  cases x with
  | linkEvent l e => exact .behind (.enterList _) (.setLink (fun k => (k l).1.dropEvent) id)
  | deviceEvent e => exact .behind (.enterList _) (.setWriter rfl rfl rfl)
  | reservation => exact .grantReservation
  | channel c x =>
    refine (Keeps.enterList x).trans (.deliverFrom ?_ c)
    rw [(s.enterList_books x).1.device, hd]
    decide

theorem Keeps.admission : Keeps p s (if s.running ∧ 0 < s.writer.free then
    match s.candidate with
    | some x => s.admitOne x
    | none => s
    else s) := by
  refine .ite (fun h => ?_) fun _ => .refl _ _
  split
  · exact .admitOne ((State.running_iff s).mp h.1) _
  · exact .refl _ _

end

/-! ## Every row, and every step -/

/-- What every row keeps. -/
theorem exec_keeps {i : Instr} {s t : State} (h : exec i s = .next t) : Keeps s.UseLaw s t := by
  cases i <;> obtain rfl := Host.Outcome.next.inj h
  case configureLink => exact .take fun r u _ _ hn => .configureLink r hn
  case startLink => exact .take fun r u _ _ hn => .startLink r hn
  case stopLink => exact .take fun r u _ _ hn => .stopLink r hn
  case writeSlotMap => exact .take fun r u hd hc hn => .writeSlotMap r hn hd hc
  case copySlotMap => exact .take fun r u _ _ hn => .copySlotMap r hn
  case readSlotMap => exact .take fun r u hd hc hn => .readSlotMap r hn hd hc
  case swapSlotMap => exact .take fun r u _ _ hn => .swapSlotMap r hn
  case openChannel => exact .take fun r u _ _ hn => .openChannel r hn
  case closeChannel => exact .take fun r u hd _ hn => .closeChannel r hn hd
  case resumeChannel => exact .take fun r u hd _ hn => .resumeChannel r hn hd
  case queryChannel => exact .take fun r u _ _ hn => .queryChannel r hn
  case setWindow => exact .take fun r u _ _ hn => .setWindowCommand r hn
  case setCoalescing => exact .take fun r u hd _ hn => .setCoalescing r hn hd
  case nop => exact .take fun r u _ _ hn => .nop r hn
  case unknownCommand => exact .unknownCommand
  case enable => exact .hostWrite _ _
  case reset => exact .hostWrite _ _
  case cmdqTailWrite => exact .hostWrite _ _
  case chanPostWrite => exact .hostWrite _ _
  case cplqHeadWrite => exact .hostWrite _ _
  case irqCauseWrite => exact .hostWrite _ _
  case irqMaskWrite => exact .hostWrite _ _
  case registerWrite offset width value =>
    split
    · exact .hostWrite _ _
    · exact .refl _ _
  case syncPulseLock => exact .lockLink
  case syncOnTime => exact .syncOnTime
  case freewheel => exact .freewheel
  case linkLoss => exact .linkLoss
  case slip => exact .slip
  case frameBoundaryOut => exact .frameBoundaryOut
  case transmitSlotLaunch l slot =>
    split
    · next h => exact .transmitSlot h
    · exact .refl _ _
  case receiveSlotComplete l slot sample =>
    split
    · next h => exact .receiveSlot h _
    · exact .refl _ _
  case groupDeparture c => exact .departGroup _ c
  case grant =>
    split
    · next tag g hfree hg => exact .grantChosen ((Port.freeEntry_iff _ _).mp hfree) hg
    · exact .refl _ _
  case cplWriteResponse => exact .respond _ _
  case rxWriteResponse => exact .respond _ _
  case txReadResponse => exact .respond _ _
  case descReadResponse => exact .respond _ _
  case cmdReadResponse => exact .respond _ _
  case listReadResponse => exact .respond _ _
  case listWriteResponse => exact .respond _ _
  case configReadResponse => exact .respond _ _
  case admission => exact .admission
  case coalescingCountReached => exact .ite (fun _ => .fire) fun _ => .refl _ _
  case coalescingTimerExpiry => exact .ite (fun _ => .fire) fun _ => .refl _ _
  case closeEnd c => exact .endClose c
  case softResetEnd => exact .endReset
  case powerOnReset =>
    refine .blank ?_ fun _ => ⟨rfl, nofun⟩
    exact ⟨rfl, rfl, rfl, rfl, rfl, rfl, rfl, rfl, rfl, rfl⟩
  case powerOnResetRelease => exact .setDevice (fun hf hr => ⟨hf, hr⟩) id id id
  case timebaseTick => exact .ite (fun _ => .refl _ _) fun _ => .tick
  case responseMatchingNoTransaction => exact .refl _ _

theorem Keeps.under {p q : Prop} {s t : State} (h : Keeps p s t) (hpq : q → p) : Keeps q s t :=
  ⟨h.port, h.link, fun hq => h.use (hpq hq), h.room, h.window, h.phase, h.coal, h.addr, h.quiet⟩

/-- What every step keeps: a row, a bit clock, or an idle step. -/
theorem step_keeps {s t : State} (h : step s = .next t) : Keeps s.UseLaw s t := by
  unfold step at h
  split at h
  · next rest _ =>
    have htaken (p : Prop) : Keeps p s (s.setPending rest) := .setPending rest
    exact (htaken _).trans ((exec_keeps h).under fun k => (htaken True).use trivial k)
  · obtain rfl := Host.Outcome.next.inj h
    exact (Keeps.setClocks _).trans (.bitClock _)
  · obtain rfl := Host.Outcome.next.inj h
    exact .refl _ _

end Sys2Proof.Machine
end

section
/-! PROOFS. The laws of the part at reset, and that every step keeps them. -/

set_option Elab.async false

namespace Sys2Proof.Machine

/-! ## At reset -/

theorem State.reset_blank : State.reset.Blank := ⟨rfl, rfl, rfl, rfl, rfl, rfl, rfl, rfl, rfl, rfl⟩

theorem Port.reset_empty : Port.reset.Empty := by
  intro tag
  simp [Port.entry, Port.reset]

end Sys2Proof.Machine

/-! ## The obligations -/

namespace Sys2Proof.Proofs

open Sys2Proof.Machine

/-- Settles O56: each row and each bit clock keeps the law, by what it does with the outstanding table (`step_keeps`). -/
theorem stepKeepsPortLaw : Obligations.StepKeepsPortLaw := fun _ _ hs h => (step_keeps h).port hs

/-- Settles O57: a bit clock keeps the law from one of its ends to the other (`Keeps.bitClock`), every other step at each change. -/
theorem stepKeepsLinkLaw : Obligations.StepKeepsLinkLaw := fun _ _ hs h => (step_keeps h).link hs

/-- Settles O58: each change of a channel conserves its references (`Channel.Conserves`), and what it lets go is let go in the same
change. -/
theorem stepKeepsUseLaw : Obligations.StepKeepsUseLaw := fun _ _ hs h => (step_keeps h).use hs hs

/-- Settles O59: only the frame take and a TX grant lengthen a FIFO, and only a descriptor read a list, each while there is room. -/
theorem stepKeepsFifoRoomAndHeldRecords : Obligations.StepKeepsFifoRoomAndHeldRecords := fun _ _ hs h => (step_keeps h).room hs

/-- Settles O60: each of the five laws by itself. -/
theorem stepKeepsRegisterLaws : Obligations.StepKeepsRegisterLaws := fun _ _ h =>
  let k := step_keeps h
  ⟨k.window, k.phase, k.coal, k.addr, k.quiet⟩

/-- Settles O55: the values by evaluation, the laws by those of a part at its reset values. -/
theorem resetValues : Obligations.ResetValues := by
  have hb := State.reset_blank
  have hbank (i : SlotId) : Bank.unassigned[i.val] = { rx := none, tx := none } := by simp [Bank.unassigned, MapEntry.unassigned]
  refine ⟨fun l => ?_, fun c => ?_, hb.window, rfl, Port.reset_empty, rfl, rfl, rfl, rfl, rfl, rfl, rfl, rfl, rfl, rfl, rfl, rfl,
    rfl, rfl, rfl, rfl, rfl, rfl, hb.portLaw, hb.linkLaw, hb.useLaw, hb.roomLaw, hb.windowLaw, hb.phaseLaw, hb.coalescerLaw,
    ⟨rfl, nofun⟩, hb.quiet⟩
  · rw [hb.link, hb.map]
    exact ⟨rfl, fun i => ⟨hbank i, hbank i⟩, rfl, rfl⟩
  · rw [hb.chan]
    refine ⟨rfl, rfl, rfl, rfl, rfl, rfl, rfl, rfl, rfl, rfl, rfl, rfl, rfl, rfl, rfl, rfl, rfl, rfl, ?_, ?_, ?_, fun p => ?_⟩
    · simp [State.reset, Port.data, Port.reset]
    · simp [State.reset, Port.desc, Port.reset]
    · simp [State.reset, Port.waitDesc, Port.reset]
    · cases p <;> simp [State.reset, Port.waitData, Port.reset]

end Sys2Proof.Proofs
end

section
/-! PROOFS. STOP_LINK (R5) and the four map commands (R23 to R36) at their take. -/

set_option Elab.async false

namespace Sys2Proof.Machine

/-! ## STOP_LINK, check by check (R5) -/

theorem State.Taking.exec_stopLink {s : State} {r : List Byte} (h : s.Taking r) (hk : byteAt r 0 = 4) :
    exec .stopLink s = .next (s.stopLink r) :=
  congrArg Host.Outcome.next (h.take .stopLink State.stopLink hk)

/-- A command that is taken waits for no reservation. -/
theorem State.Taking.grantWaiting {s t : State} {r : List Byte} (h : s.Taking r) (ht : t.cmd.state = s.cmd.state) :
    t.grantWaiting = t := by
  refine t.grantWaiting_waits ?_
  rw [ht, h.taking]
  simp

section
variable {s : State} {r : List Byte} {l : LinkId}

theorem State.stopLink_no_link (hn : 8 ≤ (byteAt r 16).toNat) : s.stopLink r = s.complete (noLinkDone .stopLink r) := by
  simp only [State.stopLink, linkOf_none _ hn]

theorem State.stopLink_bad (hl : (byteAt r 16).toNat = l.val) (hz : ¬ reservedZero .stopLink r = true) :
    s.stopLink r = s.complete (s.linkDone .stopLink r .badParam l) := by
  simp only [State.stopLink, linkOf_eq _ l hl]
  exact if_neg hz

theorem State.stopLink_off (hl : (byteAt r 16).toNat = l.val) (hz : reservedZero .stopLink r = true)
    (hst : (s.link l).state = .off) : s.stopLink r = s.complete (s.linkDone .stopLink r .linkOff l) := by
  simp only [State.stopLink, linkOf_eq _ l hl, hst]
  exact if_pos hz

theorem State.stopLink_hunting (hl : (byteAt r 16).toNat = l.val) (hz : reservedZero .stopLink r = true)
    (hst : (s.link l).state = .hunting) :
    s.stopLink r = (s.setLink l (s.link l).stopped).complete (s.linkDone .stopLink r .ok l) := by
  simp only [State.stopLink, linkOf_eq _ l hl, hst]
  exact if_pos hz

theorem State.stopLink_locked (hl : (byteAt r 16).toNat = l.val) (hz : reservedZero .stopLink r = true)
    (hst : (s.link l).state = .locked) : s.stopLink r = (s.stopLocked l).complete (s.linkDone .stopLink r .ok l) := by
  simp only [State.stopLink, linkOf_eq _ l hl, hst]
  exact if_pos hz

/-- A pending swap of a link is performed at a take: no other command waits for a reservation then. -/
theorem State.Taking.performPending (h : s.Taking r) {tag : U32} (hp : (s.map l).swapPending = true)
    (ht : (s.map l).swapTag = some tag) (cause : SwapCause) : s.performPending l cause = s.exchanged l tag cause.code := by
  rw [State.performPending_eq _ _ _ h.running, if_pos hp, ht, Option.getD_some]
  exact h.grantWaiting rfl

end

/-! ## The shared checks of the map commands (R23) -/

section
variable {s : State} {r : List Byte} {k : CmdKind} {own : Bool} {act : LinkId → State → State}

theorem State.mapCommand_no_link (hn : 8 ≤ (byteAt r 16).toNat) :
    State.mapCommand k own act r s = s.complete (noLinkDone k r) := by
  simp only [State.mapCommand, linkOf_none _ hn]

theorem State.mapCommand_bad {l : LinkId} (hl : (byteAt r 16).toNat = l.val) (hbad : ¬ (reservedZero k r = true ∧ own = true)) :
    State.mapCommand k own act r s = s.complete (s.linkDone k r .badParam l) := by
  have hfalse : (!(reservedZero k r) || !own) = true := by
    rcases Classical.not_and_iff_not_or_not.mp hbad with e | e <;> simp [e]
  simp only [State.mapCommand, linkOf_eq _ l hl, State.mapRefusal, hfalse, if_true]

theorem State.mapCommand_busy {l : LinkId} (hl : (byteAt r 16).toNat = l.val) (hz : reservedZero k r = true) (ho : own = true)
    (hp : (s.map l).swapPending = true) : State.mapCommand k own act r s = s.complete (s.linkDone k r .busy l) := by
  simp [State.mapCommand, linkOf_eq _ l hl, State.mapRefusal, hz, ho, hp]

end

theorem writeMapParams_iff (r : List Byte) :
    writeMapParams r = true ↔ (1 ≤ (u16At r 18).toNat ∧ (u16At r 18).toNat ≤ 128) ∧ (u64At r 24).toNat % 4 = 0 := by
  simp [writeMapParams]

theorem bankSelectOf_isSome_iff (b : Byte) : (bankSelectOf b).isSome = true ↔ b.toNat ≤ 1 := by
  constructor
  · intro h
    unfold bankSelectOf at h
    split at h
    · next e => simp [e]
    · split at h
      · next e => simp [e]
      · cases h
  · intro h
    rcases byte_le_one b h with e | e <;> simp [bankSelectOf, e]

theorem readMapParams_iff (r : List Byte) :
    readMapParams r = true ↔ (byteAt r 17).toNat ≤ 1 ∧ (u64At r 24).toNat % 4 = 0 := by
  rw [readMapParams, Bool.and_eq_true, bankSelectOf_isSome_iff, beq_iff_eq]

/-- The bank that the role byte selects (R29). -/
theorem SlotMap.select_eq (m : SlotMap) {b : Byte} (h : b.toNat ≤ 1) :
    m.select (bankSelectOf b) = if b = 0 then m.active else m.standby := by
  rcases byte_le_one b h with e | e <;> simp [SlotMap.select, bankSelectOf, e]

section
variable {s : State} {r : List Byte} (h : s.Taking r)
include h

theorem State.Taking.exec_writeSlotMap (hk : byteAt r 0 = 5) : exec .writeSlotMap s = .next (s.writeSlotMap r) :=
  congrArg Host.Outcome.next (h.take .writeSlotMap State.writeSlotMap hk)

theorem State.Taking.exec_copySlotMap (hk : byteAt r 0 = 6) : exec .copySlotMap s = .next (s.copySlotMap r) :=
  congrArg Host.Outcome.next (h.take .copySlotMap State.copySlotMap hk)

theorem State.Taking.exec_readSlotMap (hk : byteAt r 0 = 7) : exec .readSlotMap s = .next (s.readSlotMap r) :=
  congrArg Host.Outcome.next (h.take .readSlotMap State.readSlotMap hk)

theorem State.Taking.exec_swapSlotMap (hk : byteAt r 0 = 8) : exec .swapSlotMap s = .next (s.swapSlotMap r) :=
  congrArg Host.Outcome.next (h.take .swapSlotMap State.swapSlotMap hk)

end

section
variable {s : State} {r : List Byte} {l : LinkId} (hl : (byteAt r 16).toNat = l.val) (hp : (s.map l).swapPending = false)
include hl hp

theorem State.writeSlotMap_no_window (hz : reservedZero .writeSlotMap r = true) (ho : writeMapParams r = true)
    (hw : s.findWindow (u64At r 24).toNat ((u16At r 18).toNat * 4) .read = none) :
    s.writeSlotMap r = s.complete (s.linkDone .writeSlotMap r .windowFault l) := by
  rw [State.writeSlotMap, ho, State.mapCommand_passes s .writeSlotMap _ r l hl hz hp]
  simp only [hw]

theorem State.writeSlotMap_begins (hz : reservedZero .writeSlotMap r = true) (ho : writeMapParams r = true) {w : WinId}
    (hw : s.findWindow (u64At r 24).toNat ((u16At r 18).toNat * 4) .read = some w) :
    s.writeSlotMap r
      = s.beginTransfer w (transferOf l .readList w (cmdTag r) (u64At r 24) ((u16At r 18).toNat * 4) []) := by
  rw [State.writeSlotMap, ho, State.mapCommand_passes s .writeSlotMap _ r l hl hz hp]
  simp only [hw]

theorem State.readSlotMap_no_window (hz : reservedZero .readSlotMap r = true) (ho : readMapParams r = true)
    (hw : s.findWindow (u64At r 24).toNat 512 .write = none) :
    s.readSlotMap r = s.complete (s.linkDone .readSlotMap r .windowFault l) := by
  rw [State.readSlotMap, ho, State.mapCommand_passes s .readSlotMap _ r l hl hz hp]
  simp only [hw]

theorem State.readSlotMap_begins (hz : reservedZero .readSlotMap r = true) (ho : readMapParams r = true) {w : WinId}
    (hw : s.findWindow (u64At r 24).toNat 512 .write = some w) :
    s.readSlotMap r = s.beginTransfer w (transferOf l .writeCopy w (cmdTag r) (u64At r 24) 512
      ((s.map l).select (bankSelectOf (byteAt r 17))).bytes) := by
  rw [State.readSlotMap, ho, State.mapCommand_passes s .readSlotMap _ r l hl hz hp]
  simp only [hw]

theorem State.copySlotMap_copies (hz : reservedZero .copySlotMap r = true) :
    s.copySlotMap r = (s.setMap l { s.map l with standby := (s.map l).active }).complete (s.linkDone .copySlotMap r .ok l) := by
  rw [State.copySlotMap, State.mapCommand_passes s .copySlotMap _ r l hl hz hp]

theorem State.swapSlotMap_unconfigured (hz : reservedZero .swapSlotMap r = true) (hc : (s.link l).config = none) :
    s.swapSlotMap r = s.complete (s.linkDone .swapSlotMap r .notConfigured l) := by
  rw [State.swapSlotMap, State.mapCommand_passes s .swapSlotMap _ r l hl hz hp]
  simp only [hc]

theorem State.swapSlotMap_invalid (hz : reservedZero .swapSlotMap r = true) {cfg : LinkConfig} (hc : (s.link l).config = some cfg)
    {f : MapFailure} (hf : s.mapFailure l cfg = some f) :
    s.swapSlotMap r = s.complete { s.linkDone .swapSlotMap r .mapInvalid l with
      v0 := BitVec.ofNat 32 f.slot.val, v1 := BitVec.ofNat 32 f.reason.code, v2 := f.dir.halfCode,
      v3 := BitVec.ofNat 32 f.chan.val } := by
  rw [State.swapSlotMap, State.mapCommand_passes s .swapSlotMap _ r l hl hz hp]
  simp only [hc, hf]

theorem State.swapSlotMap_pends (hz : reservedZero .swapSlotMap r = true) {cfg : LinkConfig} (hc : (s.link l).config = some cfg)
    (hf : s.mapFailure l cfg = none) (hst : (s.link l).state = .locked) :
    s.swapSlotMap r = (s.setMap l { s.map l with swapPending := true, swapTag := some (cmdTag r) }).finishTaking := by
  rw [State.swapSlotMap, State.mapCommand_passes s .swapSlotMap _ r l hl hz hp]
  simp only [hc, hf, hst, if_true]

theorem State.swapSlotMap_swaps (hz : reservedZero .swapSlotMap r = true) {cfg : LinkConfig} (hc : (s.link l).config = some cfg)
    (hf : s.mapFailure l cfg = none) (hst : (s.link l).state ≠ .locked) :
    s.swapSlotMap r = (s.swapBanks l .take (cmdTag r)).finishTaking := by
  rw [State.swapSlotMap, State.mapCommand_passes s .swapSlotMap _ r l hl hz hp]
  simp only [hc, hf, if_neg hst]

end

/-- The three outcomes of R23 for a map command with parameters of its own. -/
theorem State.mapCommand_refusals {s : State} {r : List Byte} (h : s.Taking r) {c : Instr} {k : CmdKind} {own : Bool}
    {act : LinkId → State → State} (hexec : exec c s = .next (State.mapCommand k own act r s)) {Good : Prop}
    (hgood : reservedZero k r = true ∧ own = true ↔ Good) :
    (8 ≤ (byteAt r 16).toNat →
      exec c s = .next (s.doneWith (doneReport k.nibble (u32At r 4) .badParam (byteAt r 16) 0)))
    ∧ ∀ l : LinkId, (byteAt r 16).toNat = l.val →
      (¬ Good → exec c s = .next (s.doneWith (doneReport k.nibble (u32At r 4) .badParam (byteAt r 16) (s.link l).frame)))
      ∧ (Good → (s.map l).swapPending = true →
        exec c s = .next (s.doneWith (doneReport k.nibble (u32At r 4) .busy (byteAt r 16) (s.link l).frame))) := by
  rw [hexec]
  refine ⟨fun hn => next_of_complete h.running (State.mapCommand_no_link hn), fun l hl => ⟨fun hbad =>
    next_of_complete h.running (State.mapCommand_bad hl (mt hgood.mp hbad)), fun hg hp => ?_⟩⟩
  obtain ⟨hz, ho⟩ := hgood.mpr hg
  exact next_of_complete h.running (State.mapCommand_busy hl hz ho hp)

end Sys2Proof.Machine

/-! ## The obligations -/

namespace Sys2Proof.Proofs

open Sys2Proof.Machine

/-- Settles O6: the refusals of R5, the stop of a HUNTING link, and that of a LOCKED one behind its pending swap. -/
theorem stopLinkOutcomes : Obligations.StopLinkOutcomes := by
  have hiff (r : List Byte) : reservedZero .stopLink r = true ↔ ReservedZero r [0, 4, 5, 6, 7, 16] :=
    reservedZero_bytes .stopLink r (by decide)
  constructor
  case left =>
    intro s r h hk
    rw [h.exec_stopLink hk]
    refine ⟨fun hn => next_of_complete h.running (State.stopLink_no_link hn), fun l hl => ⟨fun hbad =>
      next_of_complete h.running (State.stopLink_bad hl (mt (hiff r).mp hbad)), fun hzero => ?_⟩⟩
    have hz := (hiff r).mpr hzero
    exact ⟨fun hst => next_of_complete h.running (State.stopLink_off hl hz hst), fun hst =>
      next_of_complete h.running (State.stopLink_hunting hl hz hst)⟩
  case right =>
    intro s r l h hk hl hzero hst off report stopped
    have hrun (u : State) (hu : u.device = s.device) : (stopped u).device.state = .running := by
      show ((u.setLink l off).notify (s.map l).active Channel.linkDown).device.state = .running
      rw [(State.notify_only _ _ _).device, State.setLink_device, hu, h.running]
    rw [h.exec_stopLink hk, State.stopLink_locked hl ((hiff r).mpr hzero) hst, State.stopLocked]
    constructor
    · intro hp
      have hnone : s.performPending l .stop = s := by simp [State.performPending, hp]
      rw [hnone]
      exact next_of_complete (hrun s rfl) rfl
    · intro tag hp ht
      rw [h.performPending hp ht]
      exact next_of_complete (hrun _ rfl) rfl

/-- Settles O7: the three refusals of R23, with the reserved fields and the parameters of each of the four kinds. -/
theorem mapCommandsSharedRefusals : Obligations.MapCommandsSharedRefusals := by
  intro s r c kind used own h hmem hk
  simp only [List.mem_cons, Prod.mk.injEq, List.not_mem_nil, or_false] at hmem
  rcases hmem with ⟨rfl, rfl, rfl, rfl⟩ | ⟨rfl, rfl, rfl, rfl⟩ | ⟨rfl, rfl, rfl, rfl⟩ | ⟨rfl, rfl, rfl, rfl⟩
  · exact State.mapCommand_refusals h (h.exec_writeSlotMap hk)
      (and_congr (reservedZero_bytes .writeSlotMap r (by decide)) (writeMapParams_iff r))
  · exact State.mapCommand_refusals h (h.exec_copySlotMap hk)
      (and_congr (reservedZero_bytes .copySlotMap r (by decide)) (by simp))
  · exact State.mapCommand_refusals h (h.exec_readSlotMap hk)
      (and_congr (reservedZero_bytes .readSlotMap r (by decide)) (readMapParams_iff r))
  · exact State.mapCommand_refusals h (h.exec_swapSlotMap hk)
      (and_congr (reservedZero_bytes .swapSlotMap r (by decide)) (by simp))

/-- Settles O8: past R23 the lowest window that covers the list decides. -/
theorem slotMapListTransfersBegin : Obligations.SlotMapListTransfersBegin := by
  constructor
  · intro s r l h hk hl hzero hlo hhi hal hp start length
    have hz := (reservedZero_bytes .writeSlotMap r (by decide)).mpr hzero
    have ho := (writeMapParams_iff r).mpr ⟨⟨hlo, hhi⟩, hal⟩
    have hpos : 1 ≤ length := by show 1 ≤ (u16At r 18).toNat * 4; omega
    rw [h.exec_writeSlotMap hk]
    refine ⟨fun hnone => next_of_complete h.running (State.writeSlotMap_no_window hl hp hz ho ?_), fun w hw => ?_⟩
    · exact (State.findWindow_none s start length .read hpos).mpr hnone
    · rw [State.writeSlotMap_begins hl hp hz ho ((State.findWindow_some s start length .read w hpos).mpr hw)]
      rfl
  · intro s r l h hk hl hzero hrole hal hp start bank
    have hz := (reservedZero_bytes .readSlotMap r (by decide)).mpr hzero
    have ho := (readMapParams_iff r).mpr ⟨hrole, hal⟩
    rw [h.exec_readSlotMap hk]
    refine ⟨fun hnone => next_of_complete h.running (State.readSlotMap_no_window hl hp hz ho ?_), fun w hw => ?_⟩
    · exact (State.findWindow_none s start 512 .write (by decide)).mpr hnone
    · rw [State.readSlotMap_begins hl hp hz ho ((State.findWindow_some s start 512 .write w (by decide)).mpr hw),
        SlotMap.select_eq _ hrole]
      rfl

/-- Settles O9: past R23 the copy always completes; the swap is refused, performed or kept pending. -/
theorem copyAndSwapSlotMapOutcomes : Obligations.CopyAndSwapSlotMapOutcomes := by
  constructor
  · intro s r l h hk hl hzero hp
    rw [h.exec_copySlotMap hk]
    exact next_of_complete (s := s.setMap l _) h.running
      (State.copySlotMap_copies hl hp ((reservedZero_bytes .copySlotMap r (by decide)).mpr hzero))
  · intro s r l h hk hl hzero hp report
    have hz := (reservedZero_bytes .swapSlotMap r (by decide)).mpr hzero
    rw [h.exec_swapSlotMap hk]
    refine ⟨fun hc => next_of_complete h.running (State.swapSlotMap_unconfigured hl hp hz hc), fun cfg hc => ⟨fun f hf => ?_,
      fun hf => ⟨fun hst => ?_, fun hst => ?_⟩⟩⟩
    · have hhalf : f.dir.halfCode = if f.dir = .rx then 0 else 1 := by cases f.dir <;> rfl
      rw [← hhalf]
      exact next_of_complete h.running (State.swapSlotMap_invalid hl hp hz hc hf)
    · rw [State.swapSlotMap_swaps hl hp hz hc hf hst, State.finishTaking_eq, State.swapBanks_eq s l .take _ h.running]
      rfl
    · rw [State.swapSlotMap_pends hl hp hz hc hf hst, State.finishTaking_eq]
      rfl

end Sys2Proof.Proofs
end

section
/-! PROOFS. OPEN_CHANNEL (R45, R46), the refusals of CLOSE_CHANNEL (R48), the end of a close (R54) and RESUME_CHANNEL (R59). -/

set_option Elab.async false

namespace Sys2Proof.Machine

/-! ## The fields of an OPEN_CHANNEL record (R45, check 4) -/

/-- The range checks of R45, check 4, on a record. -/
def ChanFieldsInRange (r : List Byte) : Prop :=
  (byteAt r 17).toNat ≤ 1 ∧ (byteAt r 18 = 8 ∨ byteAt r 18 = 16) ∧ (1 ≤ (byteAt r 19).toNat ∧ (byteAt r 19).toNat ≤ 8)
    ∧ (byteAt r 20).toNat ≤ 1 ∧ (byteAt r 21).toNat ≤ 1 ∧ (byteAt r 22).toNat ∈ [1, 2, 4, 8]
    ∧ (byteAt r 22).toNat * (byteAt r 19).toNat ≤ 24 ∧ (u64At r 32).toNat % 16 = 0
    ∧ ∃ k, 3 ≤ k ∧ k ≤ 10 ∧ (u16At r 24).toNat = 2 ^ k

/-- The configuration that a record with its fields in range gives (R45). -/
def chanFields (r : List Byte) : ChanConfig :=
  { dir := if byteAt r 17 = 0 then .rx else .tx, width := (byteAt r 18).toNat, lanes := (byteAt r 19).toNat,
    layout := if byteAt r 20 = 0 then .interleaved else .planar,
    priority := if byteAt r 21 = 0 then .normal else .urgent, threshold := (byteAt r 22).toNat,
    ringBase := u64At r 32, ringSize := (u16At r 24).toNat,
    idleValue := if byteAt r 17 = 0 then none else some (u16At r 26) }

theorem powerIn_threshold (n : Nat) : powerIn 0 3 n = true ↔ n ∈ [1, 2, 4, 8] := by
  rw [powerIn_iff]
  constructor
  · rintro ⟨k, _, hk, rfl⟩
    interval_cases k <;> simp
  · intro h
    simp only [List.mem_cons, List.not_mem_nil, or_false] at h
    rcases h with rfl | rfl | rfl | rfl
    · exact ⟨0, by decide⟩
    · exact ⟨1, by decide⟩
    · exact ⟨2, by decide⟩
    · exact ⟨3, by decide⟩

/-- A byte that only 0 and 1 give a value. -/
theorem bit_value {α : Type} {b : Byte} {x y v : α} (h : (if b = 0 then some x else if b = 1 then some y else none) = some v) :
    b.toNat ≤ 1 := by
  split at h
  · next e => simp [e]
  · split at h
    · next e => simp [e]
    · cases h

theorem directionOf_in_range {b : Byte} (h : b.toNat ≤ 1) : directionOf b = some (if b = 0 then .rx else .tx) := by
  rcases byte_le_one b h with e | e <;> simp [directionOf, e]

theorem layoutOf_in_range {b : Byte} (h : b.toNat ≤ 1) : layoutOf b = some (if b = 0 then .interleaved else .planar) := by
  rcases byte_le_one b h with e | e <;> simp [layoutOf, e]

theorem priorityOf_in_range {b : Byte} (h : b.toNat ≤ 1) : priorityOf b = some (if b = 0 then .normal else .urgent) := by
  rcases byte_le_one b h with e | e <;> simp [priorityOf, e]

theorem chanConfigOf_in_range {r : List Byte} (h : ChanFieldsInRange r) : chanConfigOf r = some (chanFields r) := by
  obtain ⟨hdir, hwidth, hlanes, hlayout, hpriority, hthreshold, hroom, hbase, hsize⟩ := h
  simp only [chanConfigOf, directionOf_in_range hdir, layoutOf_in_range hlayout, priorityOf_in_range hpriority]
  refine (if_pos ⟨(widthOk_iff _).mpr hwidth, hlanes, (powerIn_threshold _).mpr hthreshold, hroom, hbase,
    (powerIn_iff _ _ _).mpr hsize⟩).trans ?_
  rw [chanFields]
  by_cases e : byteAt r 17 = 0 <;> simp only [e, if_true, if_false]

theorem chanFieldsInRange_of_chanConfigOf {r : List Byte} {cfg : ChanConfig} (h : chanConfigOf r = some cfg) :
    ChanFieldsInRange r := by
  unfold chanConfigOf at h
  split at h
  · next hdir hlayout hpriority =>
    split at h
    · next hc =>
      obtain ⟨hwidth, hlanes, hthreshold, hroom, hbase, hsize⟩ := hc
      exact ⟨bit_value hdir, (widthOk_iff _).mp hwidth, hlanes, bit_value hlayout, bit_value hpriority,
        (powerIn_threshold _).mp hthreshold, hroom, hbase, (powerIn_iff _ _ _).mp hsize⟩
    · cases h
  · cases h

/-! ## OPEN_CHANNEL, check by check (R45) -/

section
variable {s : State} {r : List Byte} (h : s.Taking r)
include h

theorem State.Taking.exec_openChannel (hk : byteAt r 0 = 9) : exec .openChannel s = .next (s.openChannel r) :=
  congrArg Host.Outcome.next (h.take .openChannel State.openChannel hk)

theorem State.Taking.exec_closeChannel (hk : byteAt r 0 = 0xA) : exec .closeChannel s = .next (s.closeChannel r) :=
  congrArg Host.Outcome.next (h.take .closeChannel State.closeChannel hk)

theorem State.Taking.exec_resumeChannel (hk : byteAt r 0 = 0xB) : exec .resumeChannel s = .next (s.resumeChannel r) :=
  congrArg Host.Outcome.next (h.take .resumeChannel State.resumeChannel hk)

end

section
variable {s : State} {r : List Byte} {c : ChanId}

theorem State.openChannel_no_chan (hn : 64 ≤ (byteAt r 16).toNat) :
    s.openChannel r = s.complete (chanDone .openChannel r .badParam) := by
  simp only [State.openChannel, chanOf_none _ hn]

section
variable (hc : (byteAt r 16).toNat = c.val)
include hc

theorem State.openChannel_bad (hz : ¬ reservedZero .openChannel r = true) :
    s.openChannel r = s.complete (chanDone .openChannel r .badParam) := by
  simp only [State.openChannel, chanOf_eq _ c hc]
  exact if_neg hz

theorem State.openChannel_busy (hz : reservedZero .openChannel r = true) (hst : (s.chan c).state = .closing) :
    s.openChannel r = s.complete (chanDone .openChannel r .busy) := by
  simp only [State.openChannel, chanOf_eq _ c hc, hst]
  exact if_pos hz

theorem State.openChannel_open (hz : reservedZero .openChannel r = true)
    (hst : (s.chan c).state = .starved ∨ (s.chan c).state = .active ∨ (s.chan c).state = .halted) :
    s.openChannel r = s.complete (chanDone .openChannel r .alreadyOpen) := by
  rcases hst with e | e | e <;>
    · simp only [State.openChannel, chanOf_eq _ c hc, e]
      exact if_pos hz

theorem State.openChannel_closed (hz : reservedZero .openChannel r = true) (hst : (s.chan c).state = .closed) :
    s.openChannel r = s.openClosed r c := by
  simp only [State.openChannel, chanOf_eq _ c hc, hst]
  exact if_pos hz

end

/-! ## OPEN_CHANNEL of a CLOSED channel (R45, R46) -/

theorem State.openClosed_bad (h : ¬ ChanFieldsInRange r) : s.openClosed r c = s.complete (chanDone .openChannel r .badParam) := by
  have hnone : chanConfigOf r = none := by
    by_contra hn
    obtain ⟨cfg, hcfg⟩ := Option.ne_none_iff_exists'.mp hn
    exact h (chanFieldsInRange_of_chanConfigOf hcfg)
  simp only [State.openClosed, hnone]

theorem State.openClosed_named (h : ChanFieldsInRange r) (hn : s.named c = true) :
    s.openClosed r c = s.complete (chanDone .openChannel r .stillMapped) := by
  simp only [State.openClosed, chanConfigOf_in_range h, hn, if_true]

theorem State.openClosed_no_window (h : ChanFieldsInRange r) (hn : ¬ s.named c = true)
    (hw : s.findWindow (u64At r 32).toNat ((u16At r 24).toNat * 16) .read = none) :
    s.openClosed r c = s.complete (chanDone .openChannel r .windowFault) := by
  simp only [State.openClosed, chanConfigOf_in_range h, if_neg hn]
  simp only [State.ringWindowOf, chanFields, hw]

theorem State.openClosed_opens (h : ChanFieldsInRange r) (hn : ¬ s.named c = true) {w : WinId}
    (hw : s.findWindow (u64At r 32).toNat ((u16At r 24).toNat * 16) .read = some w) :
    s.openClosed r c = ((s.claim w).setChan c (Channel.opened (chanFields r) w)).complete
      { chanDone .openChannel r .ok with v0 := BitVec.ofNat 32 w.val } := by
  have hring : s.ringWindowOf (chanFields r) = some w := hw
  simp only [State.openClosed, chanConfigOf_in_range h, if_neg hn, hring]

/-! ## CLOSE_CHANNEL refused (R48) -/

theorem closeModeOf_graceful {b : Byte} (h : b = 0) : closeModeOf b = some .graceful := by simp [closeModeOf, h]

theorem closeModeOf_abort {b : Byte} (h : b = 1) : closeModeOf b = some .abort := by simp [closeModeOf, h]

theorem State.closeChannel_no_chan (hn : 64 ≤ (byteAt r 16).toNat) :
    s.closeChannel r = s.complete (chanDone .closeChannel r .badParam) := by
  simp only [State.closeChannel, chanOf_none _ hn]

section
variable (hc : (byteAt r 16).toNat = c.val)
include hc

theorem State.closeChannel_bad (hbad : ¬ (reservedZero .closeChannel r = true ∧ (byteAt r 17).toNat ≤ 1)) :
    s.closeChannel r = s.complete (chanDone .closeChannel r .badParam) := by
  simp only [State.closeChannel, chanOf_eq _ c hc]
  split
  · rfl
  · next mode hmode => exact if_neg fun hz => hbad ⟨hz, bit_value hmode⟩

theorem State.closeChannel_refused (hz : reservedZero .closeChannel r = true) {mode : CloseMode}
    (hm : closeModeOf (byteAt r 17) = some mode) {st : Status} (hst : s.closeRefusal c mode = some st) :
    s.closeChannel r = s.complete (chanDone .closeChannel r st) := by
  simp only [State.closeChannel, chanOf_eq _ c hc, hm, hst]
  exact if_pos hz

theorem State.closeChannel_taken (hz : reservedZero .closeChannel r = true) {mode : CloseMode}
    (hm : closeModeOf (byteAt r 17) = some mode) (hst : s.closeRefusal c mode = none) :
    s.closeChannel r = (s.update c ((s.chan c).close mode (cmdTag r))).finishTaking := by
  simp only [State.closeChannel, chanOf_eq _ c hc, hm, hst]
  exact if_pos hz

end

theorem closeModeOf_in_range {b : Byte} (h : b.toNat ≤ 1) : ∃ mode, closeModeOf b = some mode := by
  rcases byte_le_one b h with e | e
  · exact ⟨_, closeModeOf_graceful e⟩
  · exact ⟨_, closeModeOf_abort e⟩

theorem Channel.isOpen_iff (ch : Channel) : ch.isOpen = true ↔ ch.state = .starved ∨ ch.state = .active ∨ ch.state = .halted := by
  simp [Channel.isOpen, or_assoc]

/-- An open channel is refused a GRACEFUL close alone, and while it is named (R48, check 4). -/
theorem State.closeRefusal_open {mode : CloseMode} (ho : (s.chan c).isOpen = true) :
    s.closeRefusal c mode = if mode = .graceful ∧ s.named c = true then some .mapped else none := by
  rcases (Channel.isOpen_iff _).mp ho with e | e | e <;> simp only [State.closeRefusal, e]

/-! ## RESUME_CHANNEL (R59) -/

theorem State.resumeChannel_no_chan (hn : 64 ≤ (byteAt r 16).toNat) :
    s.resumeChannel r = s.complete (chanDone .resumeChannel r .badParam) := by
  simp only [State.resumeChannel, chanOf_none _ hn]

section
variable (hc : (byteAt r 16).toNat = c.val)
include hc

theorem State.resumeChannel_bad (hz : ¬ reservedZero .resumeChannel r = true) :
    s.resumeChannel r = s.complete (chanDone .resumeChannel r .badParam) := by
  simp only [State.resumeChannel, chanOf_eq _ c hc]
  exact if_neg hz

theorem State.resumeChannel_not_halted (hz : reservedZero .resumeChannel r = true) (hst : (s.chan c).state ≠ .halted) :
    s.resumeChannel r = s.complete (chanDone .resumeChannel r .notHalted) := by
  simp only [State.resumeChannel, chanOf_eq _ c hc]
  exact (if_pos hz).trans (if_neg hst)

theorem State.resumeChannel_resumes (hz : reservedZero .resumeChannel r = true) (hst : (s.chan c).state = .halted) :
    s.resumeChannel r = (s.update c ((s.chan c).resumed, [])).complete
      { chanDone .resumeChannel r .ok with consumed := (s.chan c).consumed } := by
  simp only [State.resumeChannel, chanOf_eq _ c hc]
  exact (if_pos hz).trans (if_pos hst)

end

end

/-! ## Settled channels that stay settled -/

/-- Away from a close, whether a record is finished does not depend on the state of the channel. -/
theorem Channel.finished_congr {a b : Channel} (ha : a.state ≠ .closing) (hb : b.state ≠ .closing) (hq : b.requests = a.requests)
    (hc : b.config = a.config) (r : BufferRecord) : b.finished r = a.finished r := by
  have hclosing (x : Channel) (hx : x.state ≠ .closing) : x.flushing = false ∧ x.flushOver = false := by
    have : (x.state == .closing) = false := by simpa using hx
    simp [Channel.flushing, Channel.flushOver, this]
  have hcfg : b.cfg = a.cfg := by simp only [Channel.cfg, hc]
  simp only [Channel.finished, Channel.inFlight, hq, hcfg, (hclosing a ha).1, (hclosing a ha).2, (hclosing b hb).1,
    (hclosing b hb).2]

/-- What settling looks at is the same, so nothing waits to be settled. -/
theorem Channel.Settled.of_same {a b : Channel} (h : a.Settled) (ha : a.state ≠ .closing) (hb : b.state ≠ .closing)
    (hl : b.list = a.list) (hq : b.requests = a.requests) (hc : b.config = a.config) (hf : b.fetch = a.fetch)
    (hn : b.consumed = a.consumed) : b.Settled where
  requests := hq ▸ h.requests
  records r hr := by
    rw [Channel.finished_congr ha hb hq hc]
    exact h.records r (hl ▸ hr)
  passes r hr p hp := by
    have hcfg : b.cfg = a.cfg := by simp only [Channel.cfg, hc]
    rw [hcfg]
    exact h.passes r (hl ▸ hr) p hp
  oldest r hr := h.oldest r (hl ▸ hr)
  consumed := by rw [hn, hl, hf, h.consumed]

theorem State.put_device (s : State) (c : ChanId) (ch : Channel) : (s.put c ch).device = s.device := by
  unfold State.put
  split <;> rfl

end Sys2Proof.Machine

/-! ## The obligations -/

namespace Sys2Proof.Proofs

open Sys2Proof.Machine

/-- Settles O14: the checks of R45 in order, then what R46 makes ready. -/
theorem openChannelChecksAndMakesReady : Obligations.OpenChannelChecksAndMakesReady := by
  intro s r h hk report
  rw [h.exec_openChannel hk]
  refine ⟨fun hn => next_of_complete h.running (State.openChannel_no_chan hn), fun c hc => ?_⟩
  intro clean lanes threshold size good
  have hclean : reservedZero .openChannel r = true ↔ clean := reservedZero_bytes .openChannel r (by decide)
  refine ⟨fun hbad => next_of_complete h.running (State.openChannel_bad hc (mt hclean.mp hbad)), fun hok => ⟨fun hst =>
    next_of_complete h.running (State.openChannel_busy hc (hclean.mpr hok) hst), fun hst =>
    next_of_complete h.running (State.openChannel_open hc (hclean.mpr hok) hst), fun hst => ?_⟩⟩
  rw [State.openChannel_closed hc (hclean.mpr hok) hst]
  have hlength (hg : good) : 1 ≤ size * 16 := by
    obtain ⟨_, _, _, _, _, _, _, _, k, _, _, hsize⟩ := hg
    have : 0 < 2 ^ k := Nat.two_pow_pos k
    omega
  refine ⟨fun hbad => ?bad, fun hg hn => ?named, fun hg hn hw => ?noWindow, fun w hg hn hw => ?opens⟩
  case bad => exact next_of_complete h.running (State.openClosed_bad hbad)
  case named => exact next_of_complete h.running (State.openClosed_named hg ((s.named_iff c).mpr hn))
  case noWindow =>
    exact next_of_complete h.running (State.openClosed_no_window hg (mt (s.named_iff c).mp hn)
      ((State.findWindow_none s _ _ .read (hlength hg)).mpr hw))
  case opens =>
    rw [State.openClosed_opens hg (mt (s.named_iff c).mp hn) ((State.findWindow_some s _ _ .read w (hlength hg)).mpr hw)]
    exact next_of_complete (s := (s.claim w).setChan c _) h.running rfl

/-- Settles O15: each refusal of R48 by the check that makes it. -/
theorem closeChannelRefusedInOrder : Obligations.CloseChannelRefusedInOrder := by
  intro s r h hk report
  rw [h.exec_closeChannel hk]
  refine ⟨fun hn => next_of_complete h.running (State.closeChannel_no_chan hn), fun c hc => ?_⟩
  intro good
  have hgood : reservedZero .closeChannel r = true ∧ (byteAt r 17).toNat ≤ 1 ↔ good :=
    and_congr_left' (reservedZero_bytes .closeChannel r (by decide))
  have hrefused {mode : CloseMode} {st : Status} (hg : good) (hm : closeModeOf (byteAt r 17) = some mode)
      (hst : s.closeRefusal c mode = some st) : (Host.Outcome.next (s.closeChannel r) : Result) = .next (s.doneWith (report st)) :=
    next_of_complete h.running (State.closeChannel_refused hc (hgood.mpr hg).1 hm hst)
  refine ⟨fun hbad => next_of_complete h.running (State.closeChannel_bad hc (mt hgood.mp hbad)), fun hg hst => ?closed,
    fun hg hst => ?closing, fun hg ho hzero hn => ?named⟩
  case closed =>
    obtain ⟨mode, hm⟩ := closeModeOf_in_range hg.2
    exact hrefused hg hm (by simp only [State.closeRefusal, hst])
  case closing =>
    obtain ⟨mode, hm⟩ := closeModeOf_in_range hg.2
    exact hrefused hg hm (by simp only [State.closeRefusal, hst])
  case named =>
    exact hrefused hg (closeModeOf_graceful hzero)
      ((State.closeRefusal_open ho).trans (if_pos ⟨rfl, (s.named_iff c).mpr hn⟩))

/-- Settles O18: a HALTED channel without anything to settle goes back STARVED, as it is. -/
theorem resumeChannelLeavesHalt : Obligations.ResumeChannelLeavesHalt := by
  intro s r h hk report
  have hiff : reservedZero .resumeChannel r = true ↔ ReservedZero r [0, 4, 5, 6, 7, 16] :=
    reservedZero_bytes .resumeChannel r (by decide)
  rw [h.exec_resumeChannel hk]
  refine ⟨fun hn => next_of_complete h.running (State.resumeChannel_no_chan hn), fun c hc => ⟨fun hbad =>
    next_of_complete h.running (State.resumeChannel_bad hc (mt hiff.mp hbad)), fun hz hst =>
    next_of_complete h.running (State.resumeChannel_not_halted hc (hiff.mpr hz) hst), fun hz hst hsettled => ?_⟩⟩
  have hput : s.update c ((s.chan c).resumed, []) = s.put c (s.chan c).resumed :=
    s.update_settled c _ (hsettled.of_same (by simp [hst]) (by simp [Channel.resumed]) rfl rfl rfl rfl rfl)
      (by simp [Channel.resumed])
  rw [State.resumeChannel_resumes hc (hiff.mpr hz) hst, hput]
  exact next_of_complete (by rw [State.put_device, h.running]) rfl

end Sys2Proof.Proofs
end

section
/-! PROOFS. The step, the rows of the command queue without a record of theirs, and the link events out of their place. -/

set_option Elab.async false

namespace Sys2Proof.Machine

/-! ## The rows of the command queue (R150) -/

/-- Each row of the command queue is the take of its kind by its owner. -/
theorem commandRows_take {c : Instr} {k : CmdKind} (h : (c, k) ∈ commandRows) :
    ∃ owner, ∀ s, exec c s = .next (s.take k owner) := by
  simp only [commandRows, List.mem_cons, Prod.mk.injEq, List.not_mem_nil, or_false] at h
  rcases h with h | h | h | h | h | h | h | h | h | h | h | h | h | h <;>
  · obtain ⟨rfl, rfl⟩ := h
    exact ⟨_, fun s => rfl⟩

/-- A record that waits for a reservation it can have is at its take as soon as it has it (R149). -/
theorem State.atTake_of_grantable {s : State} {r : List Byte} (hd : s.device.state = .running) (hw : s.cmd.state = .waitSpace)
    (hr : s.cmd.inHand = some r) (hg : s.Grantable) : s.atTake = some (r, s.granted) := by
  have hn : s.reservationNow = true := (s.reservationNow_iff).mpr hg
  simp only [State.atTake, hr, State.running, hd, hw, hn]
  rfl

theorem State.granted_taking {s : State} {r : List Byte} (hd : s.device.state = .running)
    (hr : s.cmd.inHand = some r) (hn : s.transfer = none) : s.granted.Taking r := ⟨hd, rfl, rfl, hr, hn⟩

theorem State.take_of_atTake_none {s : State} (h : s.atTake = none) (k : CmdKind) (owner : List Byte → State → State) :
    s.take k owner = s := by simp only [State.take, h]

theorem State.atTake_no_record {s : State} (h : s.cmd.inHand = none) : s.atTake = none := by simp only [State.atTake, h]

theorem State.atTake_not_running {s : State} (h : s.device.state ≠ .running) : s.atTake = none := by
  have hr : s.running = false := by simpa [State.running] using h
  cases hi : s.cmd.inHand <;> simp [State.atTake, hi, hr]

/-- A record of another kind is not taken. -/
theorem State.take_other_kind {s : State} {r : List Byte} (hr : s.cmd.inHand = some r) {k : CmdKind} (hk : byteAt r 0 ≠ k.code)
    (owner : List Byte → State → State) : s.take k owner = s := by
  cases h : s.atTake with
  | none => exact s.take_of_atTake_none h k owner
  | some x =>
    have hx : x.1 = r := by
      simp only [State.atTake, hr] at h
      split at h
      · cases h
      · split at h
        · cases h; rfl
        · split at h
          · cases h; rfl
          · cases h
    simp only [State.take, h, cmdKindByte, hx]
    exact if_neg hk

theorem knownKind_unknown {b : Byte} (h : b = 0 ∨ 0x0E < b.toNat) : knownKind b = false := by
  rcases h with rfl | h
  · rfl
  · simp only [knownKind, decide_eq_false (Nat.not_le.mpr h), Bool.and_false]

theorem State.exec_unknownCommand {s t : State} {r : List Byte} (h : s.atTake = some (r, t)) (hk : knownKind (byteAt r 0) = false) :
    exec .unknownCommand s = .next (t.complete (unknownDone (u32At r 4) (byteAt r 0))) := by
  show Host.Outcome.next _ = _
  simp only [h, cmdKindByte, hk, cmdTag]
  rfl

/-! ## Link events out of their place (R6, R8, R13) -/

section
variable {s : State} {l : LinkId}

theorem Link.atLastBit_iff (x : Link) :
    x.atLastBit = true ↔ ∃ cfg, x.config = some cfg ∧ x.bitPos = some (cfg.slots * cfg.width - 1) := by
  cases h : x.config <;> simp [Link.atLastBit, h, LinkConfig.frameLength]

theorem Link.atBoundary_iff (x : Link) :
    x.atBoundary = true ↔ ∃ cfg, x.config = some cfg ∧ x.bitPos = some (cfg.slots * cfg.width - 1) ∧ x.completed = cfg.slots := by
  rw [Link.atBoundary, Bool.and_eq_true, Link.atLastBit_iff]
  cases h : x.config with
  | none => simp
  | some cfg => simp [eq_comm (a := cfg.slots)]

theorem Link.lockedAs_iff (x : Link) (role : SyncRole) :
    x.lockedAs role = true ↔ x.state = .locked ∧ x.config.map LinkConfig.role = some role := by
  simp [Link.lockedAs, Link.role]

theorem Link.boundaryAs_iff (x : Link) (role : SyncRole) :
    x.boundaryAs role = true ↔ (x.state = .locked ∧ x.config.map LinkConfig.role = some role)
      ∧ ∃ cfg, x.config = some cfg ∧ x.bitPos = some (cfg.slots * cfg.width - 1) ∧ x.completed = cfg.slots := by
  rw [Link.boundaryAs, Bool.and_eq_true, Link.lockedAs_iff, Link.atBoundary_iff]

theorem Link.offBoundary_iff (x : Link) : x.offBoundary = true ↔ 0 < x.launched ∧ ¬ x.atLastBit = true := by
  simp [Link.offBoundary]

/-- A slot event that is not due is none of the link's. -/
theorem State.lockedSlot_none {slot : SlotId} {due : Bool}
    (h : ¬ ((s.link l).state = .locked ∧ ∃ cfg, (s.link l).config = some cfg ∧ slot.val < cfg.slots) ∨ due = false) :
    s.lockedSlot l slot due = none := by
  cases hc : s.lockedSlot l slot due with
  | none => rfl
  | some cfg =>
    obtain ⟨hst, hdue, hcfg, hslot⟩ := State.lockedSlot_eq_some hc
    rcases h with h | h
    · exact absurd ⟨hst, cfg, hcfg, hslot⟩ h
    · rw [h] at hdue; cases hdue

theorem Link.mayLaunch_false {x : Link} {slot : Nat} (h : x.launched ≠ slot ∨ x.completed + 1 < slot) : x.mayLaunch slot = false := by
  simp only [Link.mayLaunch, Bool.and_eq_false_iff, beq_eq_false_iff_ne, decide_eq_false_iff_not]
  omega

theorem Link.mayComplete_false {x : Link} {slot : Nat} (h : x.completed ≠ slot ∨ x.launched ≤ slot) : x.mayComplete slot = false := by
  simp only [Link.mayComplete, Bool.and_eq_false_iff, beq_eq_false_iff_ne, decide_eq_false_iff_not]
  omega

end

end Sys2Proof.Machine

namespace Sys2Proof.Proofs
open Sys2Proof.Machine

/-- Settles O1: the three cases of a step. -/
theorem stepRunsFrontCommand : Obligations.StepRunsFrontCommand := by
  unfold Obligations.StepRunsFrontCommand
  refine ⟨fun c rest s hp => ?_, fun b rest s hp hc => ?_, fun s hp hc => ?_⟩
  · simp only [step, hp, State.setPending]
  · simp only [step, hp, hc, State.setClocks]
  · simp only [step, hp, hc]

/-- Settles O2: the record is at the same take in both states. -/
theorem commandTakesReservationFirst : Obligations.CommandTakesReservationFirst := by
  unfold Obligations.CommandTakesReservationFirst
  intro s r hd hw hr hn hg
  have before : s.atTake = some (r, s.granted) := State.atTake_of_grantable hd hw hr hg
  have after : s.granted.atTake = some (r, s.granted) := (State.granted_taking hd hr hn).atTake
  refine ⟨fun c k hc hk => ?_, fun hk => ?_⟩
  · obtain ⟨owner, h⟩ := commandRows_take hc
    have hkind : cmdKindByte r = k.code := hk
    simp only [h, State.take, before, after, hkind, if_true]
  · rw [State.exec_unknownCommand before (knownKind_unknown hk), State.exec_unknownCommand after (knownKind_unknown hk)]

/-- Settles O3: a row without its record finds nothing to take, and a link event out of its place fails its guard. -/
theorem eventsNeedTheirConditions : Obligations.EventsNeedTheirConditions := by
  unfold Obligations.EventsNeedTheirConditions
  refine ⟨fun s c k hc h => ?_, fun s l => ?_⟩
  · obtain ⟨owner, hx⟩ := commandRows_take hc
    rw [hx]
    refine congrArg Host.Outcome.next ?_
    rcases h with h | h | ⟨r, hr, hk⟩
    · exact s.take_of_atTake_none (State.atTake_no_record h) k owner
    · exact s.take_of_atTake_none (State.atTake_not_running h) k owner
    · exact State.take_other_kind hr hk owner
  · simp only []
    refine ⟨fun h => ?_, fun h => ⟨?_, ?_, ?_⟩, fun h => ?_, fun h => ?_, fun h => ?_, fun h => ?_, fun slot => ⟨fun h => ?_, fun h x => ?_⟩⟩
      <;> refine congrArg Host.Outcome.next ?_
    · exact if_neg h
    · exact if_neg fun k => h ((Link.boundaryAs_iff _ _).mp k)
    · exact if_neg fun k => h ((Link.boundaryAs_iff _ _).mp k.1)
    · exact if_neg fun k => h ((Link.boundaryAs_iff _ _).mp k.1)
    · refine if_neg fun k => ?_
      obtain ⟨hlaunched, hbit⟩ := (Link.offBoundary_iff _).mp k.2
      rcases h with h | h | h
      · exact h ((Link.lockedAs_iff _ _).mp k.1)
      · exact hbit ((Link.atLastBit_iff _).mpr h)
      · omega
    · refine if_neg fun k => ?_
      have := k.2
      simp only [missedSyncLimit] at this
      omega
    · refine if_neg fun k => ?_
      have := k.2
      simp only [missedSyncLimit] at this
      omega
    · exact if_neg fun k => h ((Link.boundaryAs_iff _ _).mp k)
    · rw [State.lockedSlot_none (h.imp_right Link.mayLaunch_false)]
    · rw [State.lockedSlot_none (h.imp_right Link.mayComplete_false)]

/-- Settles O22: NOP and a record of unknown kind complete at their take. -/
theorem nopAndUnknownComplete : Obligations.NopAndUnknownComplete := by
  unfold Obligations.NopAndUnknownComplete
  intro s r h
  refine ⟨fun hk => ?_, fun hk => ?_⟩
  · have e : exec .nop s = .next (s.nop r) := congrArg Host.Outcome.next (h.take .nop State.nop hk)
    rw [e]
    refine ⟨fun hz => next_of_complete h.running ?_, fun hz => next_of_complete h.running ?_⟩
    · simp only [State.nop, if_pos ((reservedZero_bytes .nop r (by decide)).mpr hz)]
      rfl
    · simp only [State.nop, if_neg fun k => hz ((reservedZero_bytes .nop r (by decide)).mp k)]
      rfl
  · rw [State.exec_unknownCommand h.atTake (knownKind_unknown hk)]
    exact next_of_complete h.running rfl

end Sys2Proof.Proofs
end

section
/-! PROOFS. The register window: what it reads, what its writes store, and the posts that arrive through it. -/

set_option Elab.async false

namespace Sys2Proof.Machine

/-! ## Reads (R159, R173) -/

/-- The offset of a register (R159). -/
def Reg.offset : Reg → Nat
  | .ctrl => 0x00
  | .status => 0x04
  | .configAddrLo => 0x08
  | .configAddrHi => 0x0C
  | .cmdqTail => 0x10
  | .chanPost => 0x14
  | .cplqHead => 0x18
  | .irqCause => 0x1C
  | .irqMask => 0x20
  | .deviceIdReg => 0x24

theorem regAt_offset {offset : BitVec 6} {reg : Reg} (h : regAt offset = some reg) : offset.toNat = reg.offset := by
  unfold regAt at h
  split at h <;> cases h <;> assumption

theorem regAt_none {offset : BitVec 6} (h : 0x28 ≤ offset.toNat ∨ offset.toNat % 4 ≠ 0) : regAt offset = none := by
  cases hr : regAt offset with
  | none => rfl
  | some reg =>
    have ho := regAt_offset hr
    cases reg <;> simp only [Reg.offset] at ho <;> omega

/-- The word of a byte's offset, and the byte's place in it. -/
theorem wordOffset : ∀ (k : Fin 64) (i : Fin 4), k.val % 4 = 0 →
    (BitVec.ofFin k + BitVec.ofNat 6 i.val) &&& 0x3C#6 = BitVec.ofFin k
      ∧ (BitVec.ofFin k + BitVec.ofNat 6 i.val).toNat % 4 = i.val := by
  decide

theorem State.readRegister_word (s : State) (k : BitVec 6) {i : Nat} (hk : k.toNat % 4 = 0) (hi : i < 4) :
    s.readRegister (k + BitVec.ofNat 6 i) .w8 = (s.readRegister k .w32 >>> (8 * i)) &&& 0xFF#32
      ∧ s.readRegister (k + BitVec.ofNat 6 i) .w16 = (s.readRegister k .w32 >>> (8 * i)) &&& 0xFFFF#32 := by
  have h := wordOffset k.toFin ⟨i, hi⟩ hk
  have hword : wordAt (k + BitVec.ofNat 6 i) = regAt k := congrArg regAt h.1
  have hplace : (k + BitVec.ofNat 6 i).toNat % 4 = i := h.2
  simp only [State.readRegister, hword, hplace, and_self]

theorem shift_and_mask (x : U32) (n m : Nat) :
    (x >>> n) &&& BitVec.ofNat 32 (2 ^ m - 1) = (x.extractLsb' n m).setWidth 32 := by
  apply BitVec.eq_of_getLsbD_eq
  intro j hj
  simp only [BitVec.getLsbD_and, BitVec.getLsbD_ushiftRight, BitVec.getLsbD_setWidth, BitVec.getLsbD_extractLsb',
    BitVec.getLsbD_ofNat, Nat.testBit_two_pow_sub_one, hj, decide_true, Bool.true_and]
  rw [Bool.and_comm]

theorem status_bits (f : FaultCode) (d : DevState) :
    (0#21 ++ f.code ++ 0#5 ++ d.code : U32) = BitVec.ofNat 32 ((match d with
      | .off => 0 | .loading => 1 | .running => 2 | .faulted => 3 | .resetting => 4) + 2 ^ 8 * match f with
      | .none => 0 | .configReadError => 1 | .configInvalid => 2 | .cmdReadError => 3 | .cplWriteError => 4) := by
  cases f <;> cases d <;> rfl

theorem Irq.bits_eq (i : Irq) : i.bits = BitVec.ofNat 32 (i.completion.toNat + 2 * i.fault.toNat) := by
  obtain ⟨c, f⟩ := i
  cases c <;> cases f <;> rfl

/-! ## Writes (R119, R120, R159, R160) -/

theorem State.hostWrite_high {s : State} (h : s.device.resetLow = false) (reg : Reg) (v : U32) : s.hostWrite reg v = s.writeReg reg v := by
  simp [State.hostWrite, h]

theorem State.intn_iff (s : State) : s.intn = true ↔
    (s.irqCause.completion = true ∧ s.irqMask.completion = true ∨ s.irqCause.fault = true ∧ s.irqMask.fault = true) := by
  simp [State.intn]

theorem Irq.clearOnes_eq (i : Irq) (v : U32) :
    i.clearOnes v = { completion := if v.getLsbD 0 then false else i.completion
                      fault := if v.getLsbD 1 then false else i.fault } := by
  have hbit (b x : Bool) : (b && !x) = if x then false else b := by cases b <;> cases x <;> rfl
  simp only [Irq.clearOnes, hbit]

theorem lowAddr_toNat (a : U64) (v : U32) :
    (a.extractLsb' 32 32 ++ (v.extractLsb' 5 27 ++ 0#5) : U64).toNat = a.toNat / 2 ^ 32 * 2 ^ 32 + v.toNat / 32 * 32 := by
  have ha := a.isLt
  have hv := v.isLt
  rw [toNat_append_eq_add, toNat_append_eq_add, BitVec.extractLsb'_toNat, BitVec.extractLsb'_toNat]
  simp only [BitVec.toNat_ofNat, Nat.shiftRight_eq_div_pow]
  omega

theorem highAddr_toNat (a : U64) (v : U32) :
    (v ++ a.extractLsb' 0 32 : U64).toNat = v.toNat * 2 ^ 32 + a.toNat % 2 ^ 32 := by
  rw [toNat_append_eq_add, BitVec.extractLsb'_toNat, Nat.shiftRight_zero]

theorem State.control_other {s : State} {v : U32} (h1 : v.toNat % 256 ≠ 1) (h2 : v.toNat % 256 ≠ 2) : s.control v = s := by
  have hact (n : Nat) (hn : n < 256) (h : v.toNat % 256 ≠ n) : ctrlAction v ≠ BitVec.ofNat 8 n := by
    intro e
    have := congrArg BitVec.toNat e
    simp only [ctrlAction, BitVec.extractLsb'_toNat, BitVec.toNat_ofNat, Nat.shiftRight_zero] at this
    omega
  simp only [State.control]
  exact (if_neg (hact 1 (by omega) h1)).trans (if_neg (hact 2 (by omega) h2))

/-- A 32-bit write at an offset without a register of its own to write is ignored (R159). -/
theorem State.exec_registerWrite_ignored {s : State} {offset : BitVec 6} (v : U32)
    (h : offset = 0x04 ∨ offset = 0x24 ∨ 0x28 ≤ offset.toNat ∨ offset.toNat % 4 ≠ 0) :
    exec (.registerWrite offset .w32 v) s = .next s := by
  have hignored (reg : Reg) (hw : s.writeReg reg v = s) : s.hostWrite reg v = s := by
    unfold State.hostWrite
    split
    · rfl
    · exact hw
  rcases h with rfl | rfl | h
  · exact congrArg Host.Outcome.next (hignored .status rfl)
  · exact congrArg Host.Outcome.next (hignored .deviceIdReg rfl)
  · show Host.Outcome.next _ = _
    rw [regAt_none h]

/-! ## Queue posts (R108, R147, R148) -/

theorem State.tailQueue_checked {s : State} (h : s.device.state = .running ∨ s.device.state = .faulted) :
    s.tailQueue = s.cmd.queue := if_pos h

theorem State.tailQueue_unchecked {s : State} (h : ¬ (s.device.state = .running ∨ s.device.state = .faulted) ∨ s.cmd.queue = none) :
    s.tailQueue = none := by
  unfold State.tailQueue
  split
  · next hc => exact h.resolve_left (not_not_intro hc)
  · rfl

section
variable {s : State} {q : Queue} {v : U32}

theorem State.postTail_stores (hq : s.tailQueue = some q)
    (hok : (v - s.cmd.head).toNat ≤ q.size ∧ (s.cmd.tail - s.cmd.head).toNat ≤ (v - s.cmd.head).toNat)
    (h : ¬ (s.cmd.state = .idle ∧ s.cmd.head ≠ v)) : s.postTail v = s.setCmd { s.cmd with tail := v } := by
  simp only [State.postTail, hq]
  exact (if_pos hok).trans (if_neg h)

theorem State.postTail_fetches (hq : s.tailQueue = some q)
    (hok : (v - s.cmd.head).toNat ≤ q.size ∧ (s.cmd.tail - s.cmd.head).toNat ≤ (v - s.cmd.head).toNat)
    (h : s.cmd.state = .idle ∧ s.cmd.head ≠ v) : s.postTail v = (s.setCmd { s.cmd with tail := v }).presentCmdRead := by
  simp only [State.postTail, hq]
  exact (if_pos hok).trans (if_pos h)

theorem State.postTail_rejects (hq : s.tailQueue = some q)
    (hok : ¬ ((v - s.cmd.head).toNat ≤ q.size ∧ (s.cmd.tail - s.cmd.head).toNat ≤ (v - s.cmd.head).toNat)) :
    s.postTail v = s.rejectPost .tail none v .range := by
  simp only [State.postTail, hq]
  exact if_neg hok

theorem State.postHead_accepts (hq : s.writer.queue = some q)
    (hok : (v - s.writer.hostHead).toNat ≤ (s.writer.limit - s.writer.hostHead).toNat) :
    s.postHead v = (s.setWriter { s.writer with hostHead := v }).presentCpl := by
  simp only [State.postHead, hq]
  exact if_pos hok

theorem State.postHead_rejects (hq : s.writer.queue = some q)
    (hok : ¬ (v - s.writer.hostHead).toNat ≤ (s.writer.limit - s.writer.hostHead).toNat) :
    s.postHead v = s.rejectPost .head none v .range := by
  simp only [State.postHead, hq]
  exact if_neg hok

/-- The Writer presents its write while RUNNING. -/
theorem State.presentCpl_running {u : State} (h : u.device.state = .running) :
    u.presentCpl = u.setPort { u.port with wait0 := u.writer.wantsWrite } := if_pos ((State.running_iff u).mpr h)

theorem State.presentCpl_not_running {u : State} (h : u.device.state ≠ .running) : u.presentCpl = u :=
  if_neg fun k => h ((State.running_iff u).mp k)

end

/-! ## The device event record (R113, R114) -/

theorem satCount_eq_min {n : Nat} (h : n ≤ 65535) : satCount n = min (n + 1) 65535 := by
  rcases Nat.lt_or_ge n 65535 with hn | hn
  · exact (if_pos hn).trans (by omega)
  · exact (if_neg (Nat.not_lt.mpr hn)).trans (by omega)

end Sys2Proof.Machine

namespace Sys2Proof.Proofs
open Sys2Proof.Machine

/-- Settles O23: the reads register by register, then the writes. -/
theorem registerWindow : Obligations.RegisterWindow := by
  unfold Obligations.RegisterWindow
  refine ⟨fun s => ?_, ⟨State.intn_iff, fun s v h => ⟨?_, ?_⟩⟩, fun s v h => ⟨?_, ?_, fun h1 h2 => ?_, fun offset ho => ?_, fun offset => ⟨rfl, rfl⟩⟩⟩
  · refine ⟨rfl, rfl, rfl, status_bits _ _, ?_, ?_, rfl, rfl, Irq.bits_eq _, Irq.bits_eq _, fun offset h => ?_, fun k hk i hi => ?_⟩
    · exact BitVec.eq_of_toNat_eq (by simp [State.readRegister, regAt, State.readReg])
    · exact BitVec.eq_of_toNat_eq (by simp [State.readRegister, regAt, State.readReg])
    · simp only [State.readRegister, regAt_none h]
      rfl
    · obtain ⟨h8, h16⟩ := s.readRegister_word k hk hi
      exact ⟨h8.trans (shift_and_mask _ _ 8), fun _ => h16.trans (shift_and_mask _ _ 16)⟩
  · refine congrArg Host.Outcome.next ((State.hostWrite_high h .irqCause v).trans ?_)
    simp only [State.writeReg, Irq.clearOnes_eq, State.setCause]
  · exact congrArg Host.Outcome.next (State.hostWrite_high h .irqMask v)
  · exact ⟨_, congrArg Host.Outcome.next (State.hostWrite_high h .configAddrLo v), lowAddr_toNat _ _⟩
  · exact ⟨_, congrArg Host.Outcome.next (State.hostWrite_high h .configAddrHi v), highAddr_toNat _ _⟩
  · exact congrArg Host.Outcome.next ((State.hostWrite_high h .ctrl v).trans (State.control_other h1 h2))
  · exact State.exec_registerWrite_ignored v ho

/-- Settles O24: each post by the lemma of its outcome. -/
theorem queueIndexPosts : Obligations.QueueIndexPosts := by
  unfold Obligations.QueueIndexPosts
  refine ⟨fun s v h => ?_, fun s v h => ?_⟩
  · have hx : exec (.cmdqTailWrite v) s = .next (s.postTail v) := congrArg Host.Outcome.next (State.hostWrite_high h .cmdqTail v)
    simp only [hx]
    refine ⟨fun hq => ?_, fun q hc hq => ?_⟩
    · simp only [State.postTail, State.tailQueue_unchecked hq]
    · have hq := (State.tailQueue_checked hc).trans hq
      refine ⟨fun hok hi => ?_, fun hok hi hne => ?_, fun hok => ?_⟩
      · rw [State.postTail_stores hq hok (by tauto)]
        rfl
      · rw [State.postTail_fetches hq hok ⟨hi, hne⟩]
        rfl
      · rw [State.postTail_rejects hq hok]
  · have hx : exec (.cplqHeadWrite v) s = .next (s.postHead v) := congrArg Host.Outcome.next (State.hostWrite_high h .cplqHead v)
    simp only [hx]
    refine ⟨fun hq => ?_, fun q hq => ⟨fun hok hr => ?_, fun hok hr => ?_, fun hok => ?_⟩⟩
    · simp only [State.postHead, hq]
      rfl
    · rw [State.postHead_accepts hq hok, State.presentCpl_running (by exact hr)]
      simp only [State.setPort, State.setWriter, Writer.wantsWrite, hq, dist32]
    · rw [State.postHead_accepts hq hok, State.presentCpl_not_running (by exact hr)]
      rfl
    · rw [State.postHead_rejects hq hok]

end Sys2Proof.Proofs
end

section
/-! PROOFS. The notices of a broken frame, and what forces the links OFF: a device fault and the RESET action. -/

set_option Elab.async false

namespace Sys2Proof.Machine

/-! ## A notice, channel by channel (R16) -/

/-- The notice at one channel. -/
def State.notifyOne (b : Bank) (f : Channel → Channel) (s : State) (c : ChanId) : State :=
  if b.names c && (s.chan c).state != .closed then s.update c (f (s.chan c), []) else s

section
variable {b : Bank} {f : Channel → Channel}

theorem State.notify_eq (s : State) (b : Bank) (f : Channel → Channel) :
    s.notify b f = (List.finRange 64).foldl (State.notifyOne b f) s := rfl

theorem State.notifyOne_passes {s : State} {c : ChanId} (h : ¬ (b.names c = true ∧ (s.chan c).state ≠ .closed)) :
    s.notifyOne b f c = s := by
  refine if_neg ?_
  simpa using h

theorem State.notifyOne_takes {s : State} {c : ChanId} (hn : b.names c = true) (hc : (s.chan c).state ≠ .closed) :
    s.notifyOne b f c = s.update c (f (s.chan c), []) := by
  refine if_pos ?_
  simpa [hn] using hc

theorem State.notifyOne_only (s : State) (c : ChanId) :
    OnlyChannels (fun k => k = c ∧ b.names c = true ∧ (s.chan c).state ≠ .closed) s (s.notifyOne b f c) := by
  by_cases h : b.names c = true ∧ (s.chan c).state ≠ .closed
  · rw [State.notifyOne_takes h.1 h.2]
    exact s.update_only _ c _ ⟨rfl, h⟩
  · rw [State.notifyOne_passes h]
    exact .refl _ _

theorem State.notifyOne_other (s : State) {c k : ChanId} (h : k ≠ c) : (s.notifyOne b f c).chan k = s.chan k :=
  (s.notifyOne_only c).chans k fun hk => h hk.1

theorem State.notifyOne_device (s : State) (c : ChanId) : (s.notifyOne b f c).device = s.device := (s.notifyOne_only c).device

/-- A notice handles only channels of its bank that are not CLOSED (R16). -/
theorem State.notifyAll_only {cs : List ChanId} (hcs : cs.Nodup) (s : State) :
    OnlyChannels (fun c => b.names c = true ∧ (s.chan c).state ≠ .closed) s (cs.foldl (State.notifyOne b f) s) := by
  have general : ∀ (cs : List ChanId) (u : State), cs.Nodup → (∀ c ∈ cs, u.chan c = s.chan c) →
      OnlyChannels (fun c => b.names c = true ∧ (s.chan c).state ≠ .closed) u (cs.foldl (State.notifyOne b f) u) := by
    intro cs
    induction cs with
    | nil => exact fun u _ _ => .refl _ u
    | cons c cs ih =>
      intro u hnd hu
      obtain ⟨hc, hnd⟩ := List.nodup_cons.mp hnd
      have hfirst : OnlyChannels (fun c => b.names c = true ∧ (s.chan c).state ≠ .closed) u (u.notifyOne b f c) := by
        refine (u.notifyOne_only c).mono fun k hk => ?_
        rw [hk.1, ← hu c (by simp)]
        exact hk.2
      refine hfirst.trans (ih _ hnd fun k hk => ?_)
      rw [u.notifyOne_other (ne_of_mem_of_not_mem hk hc), hu k (by simp [hk])]
  exact general cs s hcs fun _ _ => rfl

/-- A notice leaves a channel as it leaves that channel alone. -/
theorem State.notifyAll_chan {cs : List ChanId} (hcs : cs.Nodup) (s : State) {c : ChanId} (hc : c ∈ cs) :
    ∃ u : State, u.chan c = s.chan c ∧ u.device = s.device
      ∧ (cs.foldl (State.notifyOne b f) s).chan c = (u.notifyOne b f c).chan c := by
  induction cs generalizing s with
  | nil => cases hc
  | cons d cs ih =>
    obtain ⟨hd, hnd⟩ := List.nodup_cons.mp hcs
    rw [List.foldl_cons]
    rcases List.mem_cons.mp hc with rfl | hc
    · refine ⟨s, rfl, rfl, ?_⟩
      have untouched : ∀ (ds : List ChanId) (u : State), c ∉ ds → (ds.foldl (State.notifyOne b f) u).chan c = u.chan c := by
        intro ds
        induction ds with
        | nil => exact fun _ _ => rfl
        | cons x xs ihx =>
          intro u hx
          obtain ⟨hne, hx⟩ := List.ne_and_not_mem_of_not_mem_cons hx
          rw [List.foldl_cons, ihx _ hx, u.notifyOne_other hne]
      exact untouched cs _ hd
    · obtain ⟨u, hu, hdev, e⟩ := ih hnd (s.notifyOne b f d) hc
      exact ⟨u, by rw [hu, s.notifyOne_other (ne_of_mem_of_not_mem hc hd)], by rw [hdev, s.notifyOne_device], e⟩

/-- While RESETTING a notice changes channels alone (R144). -/
theorem State.notifyAll_resetting (cs : List ChanId) {s : State} (h : s.device.state = .resetting) :
    ∃ v, cs.foldl (State.notifyOne b f) s = { s with chans := v } := by
  induction cs generalizing s with
  | nil => exact ⟨s.chans, rfl⟩
  | cons c cs ih =>
    have hone : ∃ v, s.notifyOne b f c = { s with chans := v } := by
      by_cases hn : b.names c = true ∧ (s.chan c).state ≠ .closed
      · rw [State.notifyOne_takes hn.1 hn.2]
        exact ⟨_, if_pos h⟩
      · exact ⟨s.chans, State.notifyOne_passes hn⟩
    obtain ⟨v, hv⟩ := hone
    rw [List.foldl_cons, hv]
    obtain ⟨w, hw⟩ := ih (s := { s with chans := v }) h
    exact ⟨w, hw⟩

theorem State.notify_only_open (s : State) :
    OnlyChannels (fun c => b.names c = true ∧ (s.chan c).state ≠ .closed) s (s.notify b f) :=
  State.notifyAll_only (List.nodup_finRange 64) s

theorem State.notify_resetting {s : State} (h : s.device.state = .resetting) : ∃ v, s.notify b f = { s with chans := v } :=
  State.notifyAll_resetting _ h

/-- A channel that a notice reaches goes back into the state as the notice leaves it. -/
theorem State.notify_chan {s : State} {c : ChanId} (hn : b.names c = true) (hc : (s.chan c).state ≠ .closed) :
    ∃ u : State, u.chan c = s.chan c ∧ u.device = s.device ∧ (s.notify b f).chan c = (u.update c (f (s.chan c), [])).chan c := by
  obtain ⟨u, hu, hd, e⟩ := State.notifyAll_chan (b := b) (f := f) (List.nodup_finRange 64) s (List.mem_finRange c)
  refine ⟨u, hu, hd, ?_⟩
  rw [State.notify_eq, e, State.notifyOne_takes hn (hu ▸ hc), hu]

theorem State.put_chan (s : State) (c : ChanId) (ch : Channel) : (s.put c ch).chan c = ch := by
  unfold State.put
  split <;> exact s.setChan_chan_same c ch

theorem State.notify_chan_settled {s : State} {c : ChanId} (hn : b.names c = true) (hc : (s.chan c).state ≠ .closed)
    (hs : (f (s.chan c)).Settled) (hcl : (f (s.chan c)).state ≠ .closing) : (s.notify b f).chan c = f (s.chan c) := by
  obtain ⟨u, -, -, e⟩ := State.notify_chan (f := f) hn hc
  rw [e, State.update_settled _ _ _ hs hcl, State.put_chan]

theorem State.notify_chan_resetting {s : State} {c : ChanId} (hr : s.device.state = .resetting) (hn : b.names c = true)
    (hc : (s.chan c).state ≠ .closed) : (s.notify b f).chan c = f (s.chan c) := by
  obtain ⟨u, -, hd, e⟩ := State.notify_chan (f := f) hn hc
  rcases u.update_chan c (f (s.chan c), []) with ⟨-, h⟩ | ⟨h, -⟩
  · rw [e, h]
  · exact absurd (hd ▸ hr) h

end

/-! ## The links forced OFF (R19) -/

theorem Link.forcedOff_off {l : Link} (h : l.state = .off) : l.forcedOff = l := by simp only [Link.forcedOff, h]

theorem Link.forcedOff_eq_stopped {l : Link} (h : l.state ≠ .off) : l.forcedOff = l.stopped := by
  unfold Link.forcedOff
  split
  · exact absurd ‹_› h
  · rfl
  · rfl

/-- One link is forced OFF: the link changes and, where it was LOCKED, the channels of its bank are handled. -/
theorem State.forceOff_eq (u : State) (l : LinkId) :
    u.forceOff l = if (u.link l).state = .locked
      then (u.setLink l (u.link l).forcedOff).notify (u.map l).active Channel.linkDown
      else u.setLink l (u.link l).forcedOff := by
  cases h : (u.link l).state with
  | off => simp only [State.forceOff, h, Link.forcedOff_off h, State.setLink_self]; rfl
  | hunting =>
    have hne : (u.link l).state ≠ .off := by rw [h]; decide
    simp only [State.forceOff, h, Link.forcedOff_eq_stopped hne]
    rfl
  | locked =>
    have hne : (u.link l).state ≠ .off := by rw [h]; decide
    simp only [State.forceOff, h, Link.forcedOff_eq_stopped hne, if_true]

theorem State.forceOff_only {u : State} {l : LinkId} {P : ChanId → Prop}
    (hP : (u.link l).state = .locked → ∀ c, (u.map l).active.names c = true → P c) :
    OnlyChannels P (u.setLink l (u.link l).forcedOff) (u.forceOff l) := by
  rw [State.forceOff_eq]
  split
  · next h => exact (State.notify_only _ _ _).mono (hP h)
  · exact .refl _ _

/-- The links of a list forced OFF in turn, without the notices. -/
def State.linksOff (s : State) (ls : List LinkId) (u : State) : State :=
  ls.foldl (fun v l => v.setLink l (s.link l).forcedOff) u

theorem State.linksOff_rest (s : State) (ls : List LinkId) (u : State) :
    s.linksOff ls u = { u with links := (s.linksOff ls u).links } := by
  unfold State.linksOff
  induction ls generalizing u with
  | nil => rfl
  | cons l ls ih => exact ih (u.setLink l (s.link l).forcedOff)

theorem State.linksOff_link (s : State) (ls : List LinkId) (u : State) (k : LinkId) :
    (s.linksOff ls u).link k = if k ∈ ls then (s.link k).forcedOff else u.link k := by
  unfold State.linksOff
  induction ls generalizing u with
  | nil => rfl
  | cons l ls ih =>
    rw [List.foldl_cons, ih]
    by_cases hk : k ∈ ls
    · simp [hk]
    · by_cases hl : k = l
      · simp [hl]
      · simp [hk, hl, State.setLink_link_other _ _ _ _ hl]

/-- What the forcing of links reads of the state at its start still stands at the links to come. -/
structure State.Forcing (s u : State) (ls : List LinkId) : Prop where
  distinct : ls.Nodup
  link : ∀ l ∈ ls, u.link l = s.link l
  map : ∀ l, u.map l = s.map l

theorem State.Forcing.next {s u : State} {l : LinkId} {ls : List LinkId} (h : s.Forcing u (l :: ls)) :
    s.Forcing (u.forceOff l) ls := by
  obtain ⟨hl, hnd⟩ := List.nodup_cons.mp h.distinct
  have only := u.forceOff_only (l := l) (P := fun _ => True) fun _ _ _ => trivial
  refine ⟨hnd, fun k hk => ?_, fun k => ?_⟩
  · have hne : k ≠ l := fun e => hl (e ▸ hk)
    have e : (u.forceOff l).link k = (u.setLink l (u.link l).forcedOff).link k := by simp only [State.link, only.links]
    rw [e, State.setLink_link_other _ _ _ _ hne, h.link k (by simp [hk])]
  · have e : (u.forceOff l).map k = u.map k := by simp only [State.map, only.maps, State.setLink_maps]
    rw [e, h.map k]

/-- The forcing of the links, written with the links as they stood at its start. -/
theorem State.forceAllOff_eq (s : State) : s.forceAllOff = s.linksForcedOff := by
  have general : ∀ (ls : List LinkId) (u : State), s.Forcing u ls →
      ls.foldl State.forceOff u = ls.foldl (fun u l =>
        let v := u.setLink l (s.link l).forcedOff
        if (s.link l).state = .locked then v.notify (s.map l).active Channel.linkDown else v) u := by
    intro ls
    induction ls with
    | nil => exact fun _ _ => rfl
    | cons l ls ih =>
      intro u h
      rw [List.foldl_cons, List.foldl_cons, ih _ h.next, State.forceOff_eq, h.link l (by simp), h.map l]
  exact general (List.finRange 8) s ⟨List.nodup_finRange 8, fun _ _ => rfl, fun _ => rfl⟩

/-- The forcing of the links handles the channels of LOCKED links alone (R16, R19). -/
theorem State.forceAllOff_only (s : State) :
    OnlyChannels s.OnLockedLink (s.linksOff (List.finRange 8) s) s.forceAllOff := by
  have general : ∀ (ls : List LinkId) (u v : State), s.Forcing v ls → OnlyChannels s.OnLockedLink u v →
      OnlyChannels s.OnLockedLink (s.linksOff ls u) (ls.foldl State.forceOff v) := by
    intro ls
    induction ls with
    | nil => exact fun _ _ _ h => h
    | cons l ls ih =>
      intro u v hf h
      have hstep : OnlyChannels s.OnLockedLink (v.setLink l (v.link l).forcedOff) (v.forceOff l) :=
        State.forceOff_only fun hst c hc => ⟨l, hf.link l (by simp) ▸ hst, hf.map l ▸ hc⟩
      rw [hf.link l (by simp)] at hstep
      exact ih _ _ hf.next ((OnlyChannels.setLink h l _).trans hstep)
  exact general _ s s ⟨List.nodup_finRange 8, fun _ _ => rfl, fun _ => rfl⟩ (.refl _ _)

theorem State.forceAllOff_link (s : State) (l : LinkId) : s.forceAllOff.link l = (s.link l).forcedOff := by
  have e : s.forceAllOff.link l = (s.linksOff (List.finRange 8) s).link l := by
    simp only [State.link, s.forceAllOff_only.links]
  rw [e, State.linksOff_link, if_pos (List.mem_finRange l)]

/-- The forcing of the links, seen from the state with the links it leaves. -/
theorem State.forceAllOff_handles (s : State) :
    OnlyChannels s.OnLockedLink { s with links := s.forceAllOff.links } s.forceAllOff := by
  have h := s.forceAllOff_only
  rw [s.linksOff_rest, ← h.links] at h
  exact h

/-- While RESETTING the forcing of the links changes links and channels alone (R144). -/
theorem State.forceAllOff_resetting {s : State} (h : s.device.state = .resetting) :
    ∃ ls cs, s.forceAllOff = { s with links := ls, chans := cs } := by
  have one (u : State) (l : LinkId) (hu : u.device.state = .resetting) :
      ∃ ls cs, u.forceOff l = { u with links := ls, chans := cs } := by
    rw [State.forceOff_eq]
    split
    · obtain ⟨v, hv⟩ := State.notify_resetting (s := u.setLink l (u.link l).forcedOff) (b := (u.map l).active)
        (f := Channel.linkDown) hu
      exact ⟨_, v, hv⟩
    · exact ⟨_, u.chans, rfl⟩
  unfold State.forceAllOff
  generalize List.finRange 8 = ks
  induction ks generalizing s with
  | nil => exact ⟨s.links, s.chans, rfl⟩
  | cons l ks ih =>
    obtain ⟨ls, cs, e⟩ := one s l h
    rw [List.foldl_cons, e]
    obtain ⟨ls', cs', e'⟩ := ih (s := { s with links := ls, chans := cs }) h
    exact ⟨ls', cs', e'⟩

/-! ## Faults and the RESET action (R156, R164, R166) -/

/-- The state of a fault before the links are forced OFF. -/
def State.faulting (s : State) (code : FaultCode) : State :=
  { s with
    device := { s.device with state := .faulted, fault := code }
    irqCause := { s.irqCause with fault := true }
    cmd := s.cmd.stop
    transfer := s.transfer.map fun x => { x with stopped := true } }

theorem State.enterFault_taken {s : State} {code : FaultCode} (h : s.device.state = .loading ∨ s.device.state = .running) :
    s.enterFault code = (s.faulting code).forceAllOff := if_pos h

theorem State.enterFault_ignored {s : State} {code : FaultCode} (hl : s.device.state ≠ .loading) (hr : s.device.state ≠ .running) :
    s.enterFault code = s := if_neg (not_or.mpr ⟨hl, hr⟩)

/-- The state of a RESET action before the links are forced OFF. -/
def State.resettingFrom (s : State) : State := { s with device := { s.device with state := .resetting }, cmd := s.cmd.stop }

theorem State.beginReset_eq (s : State) : s.beginReset =
    { s.resettingFrom.forceAllOff with
      coal := { s.coal with timer := none }
      port := s.port.withdrawAll } := by
  obtain ⟨ls, cs, e⟩ := State.forceAllOff_resetting (s := s.resettingFrom) rfl
  have hfrom : (s.setDevice { s.device with state := .resetting }).setCmd s.cmd.stop = s.resettingFrom := rfl
  simp only [State.beginReset, hfrom, e]
  rfl

theorem State.beginReset_device (s : State) : s.beginReset.device = { s.device with state := .resetting } := by
  rw [State.beginReset_eq]
  simp only [State.forceAllOff_device]
  rfl

theorem State.beginReset_chan (s : State) (c : ChanId) : s.beginReset.chan c = s.resettingFrom.forceAllOff.chan c := by
  simp only [State.chan, State.beginReset_eq]

theorem State.beginReset_link (s : State) (l : LinkId) : s.beginReset.link l = (s.link l).forcedOff := by
  have e : s.beginReset.link l = s.resettingFrom.forceAllOff.link l := by simp only [State.link, State.beginReset_eq]
  rw [e, State.forceAllOff_link]
  rfl

theorem State.exec_reset {s : State} (h : s.device.resetLow = false) (upper : BitVec 24) :
    exec (.reset upper) s = .next s.resetAction := by
  refine congrArg Host.Outcome.next ((State.hostWrite_high h .ctrl _).trans ?_)
  have hact : ctrlAction (upper ++ 0x02#8) = 0x02 := by
    apply BitVec.eq_of_toNat_eq
    simp only [ctrlAction, BitVec.extractLsb'_toNat, toNat_append_eq_add, Nat.shiftRight_zero]
    exact Nat.mul_add_mod' _ _ _
  simp only [State.writeReg, State.control, hact]
  rfl

theorem State.exec_enable {s : State} (h : s.device.resetLow = false) (upper : BitVec 24) :
    exec (.enable upper) s = .next s.enableAction := by
  refine congrArg Host.Outcome.next ((State.hostWrite_high h .ctrl _).trans ?_)
  have hact : ctrlAction (upper ++ 0x01#8) = 0x01 := by
    apply BitVec.eq_of_toNat_eq
    simp only [ctrlAction, BitVec.extractLsb'_toNat, toNat_append_eq_add, Nat.shiftRight_zero]
    exact Nat.mul_add_mod' _ _ _
  simp only [State.writeReg, State.control, hact, if_true]

end Sys2Proof.Machine

namespace Sys2Proof.Proofs
open Sys2Proof.Machine

/-- Settles O27: a fault is the forcing of the links OFF from the state it leaves of the other blocks. -/
theorem deviceFaultTaken : Obligations.DeviceFaultTaken := by
  unfold Obligations.DeviceFaultTaken
  intro s code
  refine ⟨fun hl hr => State.enterFault_ignored hl hr, fun h => ?_⟩
  simp only [State.enterFault_taken h]
  exact ⟨(s.faulting code).forceAllOff_eq, (s.faulting code).forceAllOff_handles, (s.faulting code).forceAllOff_link⟩

/-- Settles O28: the action begins a reset, which ends at once with nothing outstanding. -/
theorem resetActionTaken : Obligations.ResetActionTaken := by
  unfold Obligations.ResetActionTaken
  intro s upper h
  rw [State.exec_reset h]
  have hport : s.beginReset.port = s.port.withdrawAll := by rw [State.beginReset_eq]
  have hempty : s.beginReset.port.Empty ↔ s.port.Empty := by rw [hport]; exact Iff.rfl
  refine ⟨fun hr => ?_, fun hr he => ?_, fun hr he => ?_⟩
  · exact congrArg Host.Outcome.next (if_pos hr)
  · refine congrArg Host.Outcome.next ((if_neg hr).trans ?_)
    rw [State.endReset_done _ (by rw [State.beginReset_device]) (hempty.mpr he), State.beginReset_eq]
    obtain ⟨ls, cs, e⟩ := State.forceAllOff_resetting (s := s.resettingFrom) rfl
    rw [e]
    rfl
  · refine ⟨s.beginReset, congrArg Host.Outcome.next ((if_neg hr).trans ?_), ?_⟩
    · exact State.endReset_waits _ fun k => he (hempty.mp k.2)
    · have hchan (c : ChanId) (hc : ¬ s.OnLockedLink c) : s.beginReset.chan c = s.chan c :=
        (s.beginReset_chan c).trans (s.resettingFrom.forceAllOff_handles.chans c hc)
      refine ⟨?_, ?_, ?_, ?_, ?_, hchan, s.beginReset_link⟩
      · rw [State.beginReset_eq, State.forceAllOff_eq]
        rfl
      all_goals
        obtain ⟨ls, cs, e⟩ := State.forceAllOff_resetting (s := s.resettingFrom) rfl
        rw [State.beginReset_eq, e]
        rfl

/-- Settles O30: every block is written anew, and while the pin is low register writes and the timebase do nothing. -/
theorem powerOnResetClearsAll : Obligations.PowerOnResetClearsAll := by
  unfold Obligations.PowerOnResetClearsAll
  intro s
  refine ⟨rfl, rfl, rfl, fun hlow => ⟨congrArg Host.Outcome.next (if_pos hlow), fun c hc => ?_⟩⟩
  have hwrite (reg : Reg) (v : U32) : s.hostWrite reg v = s := if_pos hlow
  cases c with
  | registerWrite offset width v =>
    refine congrArg Host.Outcome.next ?_
    cases width with
    | w32 => cases regAt offset with
      | none => rfl
      | some reg => exact hwrite reg v
    | w8 => rfl
    | w16 => rfl
  | enable | reset | cmdqTailWrite | chanPostWrite | cplqHeadWrite | irqCauseWrite | irqMaskWrite =>
    exact congrArg Host.Outcome.next (hwrite _ _)
  | _ => cases hc

end Sys2Proof.Proofs
end

section
/-! PROOFS. The responses: which row they are, what they carry, and what the owners of configuration, command, completion and
list transactions make of them; the events of the coalescer. -/

set_option Elab.async false

namespace Sys2Proof.Machine

/-! ## A response by its tag (R129) -/

/-- A response row is the response of its tag, whichever row it is. -/
theorem exec_response {c : Instr} {tag : TagId} {answer : ReadResult} (h : responseOf c = some (tag, answer)) (s : State) :
    exec c s = .next (s.respond tag answer) := by
  cases c with
  | cplWriteResponse | rxWriteResponse | listWriteResponse | txReadResponse | descReadResponse | cmdReadResponse
  | listReadResponse | configReadResponse =>
    cases h
    rfl
  | _ => cases h

section
variable {s : State} {tag : TagId} {t : Transaction}

/-- Away from a reset, a response row reaches the owner of its transaction. -/
theorem exec_response_taken {c : Instr} {answer : ReadResult} (h : responseOf c = some (tag, answer))
    (e : s.port.entry tag = some t) (hr : s.device.state ≠ .resetting) : exec c s = .next ((s.answered tag t).deliver t answer) := by
  rw [exec_response h, State.respond_taken s tag answer t e hr]

/-- The transactions that read. -/
abbrev TransKind.reads (k : TransKind) : Prop :=
  k = .txRead ∨ k = .descRead ∨ k = .cmdRead ∨ k = .listRead ∨ k = .configRead

/-- The owner of a read takes the whole of its bytes. -/
theorem State.deliver_reads (hk : t.kind.reads) :
    ∃ owner, ∀ (u : State) (answer : ReadResult), u.deliver t answer = u.readWhole t answer owner := by
  rcases hk with hk | hk | hk | hk | hk <;> exact ⟨_, fun u answer => by simp only [State.deliver, hk]; rfl⟩

/-- Bytes beyond the length of a read are not taken (R168). -/
theorem State.readWhole_take (u : State) (bs : List Byte) (owner : State → ReadResult → State) (h : t.length ≤ bs.length) :
    u.readWhole t (.okay bs) owner = u.readWhole t (.okay (bs.take t.length)) owner := by
  have hlen : (bs.take t.length).length = t.length := by simp [h]
  rw [State.readWhole_okay u t (bs.take t.length) owner hlen]
  simp only [State.readWhole, wholeAnswer, missingBytes, Nat.sub_eq_zero_of_le h, List.range_zero, List.map_nil, List.append_nil,
    Nat.add_zero]
  rfl

/-- The free bytes that a short response leaves its requester (assumption log 7). -/
def freeBytesFrom (used n : Nat) : List Byte := (List.range n).map fun i => Config.freeByte (used + i)

theorem freeBytesFrom_length (used n : Nat) : (freeBytesFrom used n).length = n := by simp [freeBytesFrom]

/-- Bytes that are missing are free bytes (R168). -/
theorem State.readWhole_short (u : State) (bs : List Byte) (owner : State → ReadResult → State) (h : bs.length < t.length) :
    u.readWhole t (.okay bs) owner
      = (u.setFreeBytes (u.freeBytes + (t.length - bs.length))).readWhole t
          (.okay (bs ++ freeBytesFrom u.freeBytes (t.length - bs.length))) owner := by
  have hlen : (bs ++ freeBytesFrom u.freeBytes (t.length - bs.length)).length = t.length := by
    rw [List.length_append, freeBytesFrom_length]
    omega
  rw [State.readWhole_okay _ t _ owner hlen]
  simp only [State.readWhole, wholeAnswer, missingBytes, List.take_of_length_le h.le]
  rfl

/-! ## The configuration load (R162, R163) -/

theorem configReserved_iff (bs : List Byte) :
    (configRecordOf bs).reservedZero = true ↔ ∀ i ∈ [18, 19, 21, 24, 25, 26, 27, 28, 29, 30, 31], byteAt bs i = 0 := by
  have split : ∀ i < 32, i ∈ [0, 1, 2, 3, 4, 5, 6, 7, 8, 9, 10, 11, 12, 13, 14, 15, 16, 17, 20, 22, 23]
      ↔ i ∉ [18, 19, 21, 24, 25, 26, 27, 28, 29, 30, 31] := by decide
  have small : ∀ i ∈ [18, 19, 21, 24, 25, 26, 27, 28, 29, 30, 31], i < 32 := by decide
  simp only [configRecordOf, zeroOutside, List.all_eq_true, List.mem_range, Bool.or_eq_true, List.contains_iff_mem, beq_iff_eq]
  refine ⟨fun h i hi => (h i (small i hi)).resolve_left fun hn => (split i (small i hi)).mp hn hi, fun h i hi => ?_⟩
  by_cases hm : i ∈ [18, 19, 21, 24, 25, 26, 27, 28, 29, 30, 31]
  · exact .inr (h i hm)
  · exact .inl ((split i hi).mpr hm)

theorem rangesMeet_iff (a la b lb : Nat) : rangesMeet a la b lb = true ↔ ¬ (a + la ≤ b ∨ b + lb ≤ a) := by
  simp only [rangesMeet, Bool.and_eq_true, decide_eq_true_eq]
  omega

theorem configValid_iff (bs : List Byte) : (configRecordOf bs).valid = true ↔ ConfigValid bs := by
  have hcount : (byteAt bs 20).toNat ≤ 255 := by have := (byteAt bs 20).isLt; omega
  have happart : (!rangesMeet (configRecordOf bs).cmdBase.toNat (2 ^ (configRecordOf bs).cmdLog * 64)
      (configRecordOf bs).cplBase.toNat (2 ^ (configRecordOf bs).cplLog * 32)) = true
      ↔ (u64At bs 0).toNat + 2 ^ (byteAt bs 16).toNat * 64 ≤ (u64At bs 8).toNat
        ∨ (u64At bs 8).toNat + 2 ^ (byteAt bs 17).toNat * 32 ≤ (u64At bs 0).toNat := by
    rw [Bool.not_eq_true', ← Bool.not_eq_true, rangesMeet_iff, not_not]
    rfl
  simp only [ConfigRecord.valid, Bool.and_eq_true, happart, configReserved_iff, decide_eq_true_eq, beq_iff_eq]
  constructor
  · rintro ⟨⟨⟨⟨⟨⟨⟨hres, hcmd⟩, hcmdSize⟩, hcpl⟩, hcplSize⟩, hcmdEnd, hcplEnd⟩, hapart⟩, hone, -⟩
    exact ⟨hres, hcmd, hcmdSize, hcpl, hcplSize, hcmdEnd, hcplEnd, hapart, hone⟩
  · intro h
    exact ⟨⟨⟨⟨⟨⟨⟨h.reserved, h.cmdBase⟩, h.cmdSize⟩, h.cplBase⟩, h.cplSize⟩, h.cmdEnd, h.cplEnd⟩, h.apart⟩, h.count, hcount⟩

theorem State.deliver_configRead (hk : t.kind = .configRead) (answer : ReadResult) :
    s.deliver t answer = s.readWhole t answer State.configResponse := by simp only [State.deliver, hk]

theorem State.configResponse_loads {bs : List Byte} (hd : s.device.state = .loading) (hv : ConfigValid bs) :
    s.configResponse (.okay bs) = s.loaded (configRecordOf bs) := if_pos ⟨hd, (configValid_iff bs).mpr hv⟩

theorem State.configResponse_invalid {bs : List Byte} (hv : ¬ ConfigValid bs) :
    s.configResponse (.okay bs) = (s.setDevice { s.device with loadAddr := none }).enterFault .configInvalid :=
  if_neg fun k => hv ((configValid_iff bs).mp k.2)

/-! ## Command reads and completion writes (R107, R148, R149) -/

theorem State.deliver_cmdRead (hk : t.kind = .cmdRead) (answer : ReadResult) :
    s.deliver t answer = s.readWhole t answer State.cmdAnswer := by simp only [State.deliver, hk]

theorem State.cmdAnswer_fetched {bs : List Byte} (h : s.cmd.state = .fetching) :
    s.cmdAnswer (.okay bs) = (s.setCmd { s.cmd with inHand := some bs, state := .waitSpace }).grantWaiting := if_pos h

theorem State.cmdAnswer_dropped {bs : List Byte} (h : s.cmd.state ≠ .fetching) : s.cmdAnswer (.okay bs) = s := if_neg h

theorem State.deliver_cplWrite (hk : t.kind = .cplWrite) (answer : ReadResult) :
    s.deliver t answer = s.cplResponse (isOkay answer) := by simp only [State.deliver, hk]

/-- The Writer after a completion write is answered OKAY (R107). -/
def Writer.advanced (w : Writer) (size : Nat) : Writer :=
  { w with
    list := w.list.tail, outstanding := false, writeIndex := w.writeIndex + 1
    phase := if (w.writeIndex + 1).toNat % size = 0 then !w.phase else w.phase }

theorem State.cplResponse_okay {q : Queue} (hq : s.writer.queue = some q) :
    s.cplResponse true = (s.setWriter (s.writer.advanced q.size)).countEntry.presentCpl := by
  have hsize : (s.writer.queue.map Queue.size).getD 1 = q.size := by rw [hq]; rfl
  simp only [State.cplResponse, if_true, hsize]
  rfl

theorem State.countEntry_fires (h : s.coal.counter + 1 = s.coal.count) : s.countEntry = s.fire := if_pos h

theorem State.countEntry_counts (h : s.coal.counter + 1 ≠ s.coal.count) :
    s.countEntry = s.setCoal { s.coal with
      counter := s.coal.counter + 1, timer := if s.coal.counter = 0 then some 0 else s.coal.timer } := if_neg h

/-- An entry counted changes the coalescer and its cause alone. -/
theorem State.countEntry_rest (s : State) : ∃ coal cause, s.countEntry = { s with coal := coal, irqCause := cause } := by
  by_cases h : s.coal.counter + 1 = s.coal.count
  · exact ⟨_, _, State.countEntry_fires h⟩
  · exact ⟨_, _, State.countEntry_counts h⟩

theorem Writer.advanced_wantsWrite {w : Writer} {q : Queue} (hq : w.queue = some q) :
    (w.advanced q.size).wantsWrite = (!w.list.tail.isEmpty && decide ((w.writeIndex + 1 - w.hostHead).toNat < q.size)) := by
  simp only [Writer.wantsWrite, Writer.advanced, hq, dist32, Bool.not_false, Bool.and_true]

/-! ## List transfers (R25, R30) -/

/-- What an answer does to the transfer (R25, R30). -/
theorem ListTransfer.answer_read {x : ListTransfer} (h : x.dir = .readList) (k : Nat) (bs : List Byte) :
    x.answer k (.okay bs) = { x with answered := x.answered + 1, held := x.held ++ [(k, bs)] } := by
  simp only [ListTransfer.answer, h]

theorem ListTransfer.answer_write {x : ListTransfer} (h : x.dir = .writeCopy) (k : Nat) (bs : List Byte) :
    x.answer k (.okay bs) = { x with answered := x.answered + 1 } := by
  simp only [ListTransfer.answer, h]

theorem ListTransfer.over_iff (y : ListTransfer) :
    y.over = true ↔ y.answered = y.issued ∧ (y.issued = y.pieces.length ∨ y.error = true ∨ y.stopped = true) := by
  simp [ListTransfer.over, or_assoc]

theorem Port.withdrawPieces_eq (p : Port) :
    p.withdrawPieces = { p with wait4 := p.wait4.filter fun r => r = .cmdRead ∨ r = .configRead } := by
  unfold Port.withdrawPieces
  congr 1
  refine List.filter_congr fun r _ => ?_
  cases r <;> simp

/-- The state as a piece has answered, before its transfer may end. -/
def State.pieceAnswered (s : State) (y : ListTransfer) : State :=
  { s with
    transfer := some y
    port := if y.error then { s.port with wait4 := s.port.wait4.filter fun r => r = .cmdRead ∨ r = .configRead } else s.port }

theorem State.pieceResponse_eq {x : ListTransfer} (hx : s.transfer = some x) (k : Nat) (result : ReadResult) :
    s.pieceResponse k result = if (x.answer k result).over then (s.pieceAnswered (x.answer k result)).endTransfer (x.answer k result)
      else s.pieceAnswered (x.answer k result) := by
  simp only [State.pieceResponse, hx, Port.withdrawPieces_eq]
  rfl

theorem State.endTransfer_stopped {y : ListTransfer} (h : y.stopped = true) :
    s.endTransfer y = (s.letGo y.window).setTransfer none := if_pos h

theorem State.endTransfer_effect {y : ListTransfer} (h : y.stopped = false) :
    s.endTransfer y = ((s.letGo y.window).setTransfer none).transferEffect y := by
  simp only [State.endTransfer, h]
  rfl

theorem State.transferEffect_error {y : ListTransfer} (h : y.error = true) :
    s.transferEffect y = s.complete (s.transferDone y .busError) := if_pos h

theorem State.transferEffect_copied {y : ListTransfer} (h : y.error = false) (hd : y.dir = .writeCopy) :
    s.transferEffect y = s.complete (s.transferDone y .ok) := by
  simp only [State.transferEffect, h, hd]
  rfl

theorem State.transferEffect_bad {y : ListTransfer} {n : Nat} (h : y.error = false) (hd : y.dir = .readList)
    (hb : firstBad (wordsOf y.list) = some n) :
    s.transferEffect y = s.complete { s.transferDone y .badParam with v0 := BitVec.ofNat 32 n, v1 := 1 } := by
  simp only [State.transferEffect, h, hd, hb]
  rfl

theorem State.transferEffect_applies {y : ListTransfer} (h : y.error = false) (hd : y.dir = .readList)
    (hb : firstBad (wordsOf y.list) = none) :
    s.transferEffect y = (s.setMap y.link { s.map y.link with
      standby := (s.map y.link).standby.apply (wordsOf y.list) }).complete (s.transferDone y .ok) := by
  simp only [State.transferEffect, h, hd, hb]
  rfl

theorem State.transferDone_eq (s : State) (y : ListTransfer) (st : Status) :
    s.transferDone y st = doneReport (if y.dir = .readList then 5 else 7) y.tag st (BitVec.ofNat 8 y.link.val) (s.link y.link).frame := by
  cases h : y.dir <;> simp only [State.transferDone, h] <;> rfl

theorem State.deliver_list (hk : t.kind = .listRead ∨ t.kind = .listWrite) {k : Nat} (href : t.ref = .piece k)
    {result : ReadResult} (hr : ∀ bs, result = .okay bs → t.kind = .listRead → bs.length = t.length) :
    s.deliver t result = s.pieceResponse k result := by
  rcases hk with hk | hk
  · cases result with
    | error => simp only [State.deliver, hk, State.readWhole_error, State.listAnswer, href]
    | okay bs => simp only [State.deliver, hk, State.readWhole_okay s t bs _ (hr bs rfl hk), State.listAnswer, href]
  · simp only [State.deliver, hk, State.listAnswer, href]

/-! ## The coalescer (R117) -/

theorem State.tick_fires {e : Nat} (h : s.coal.timer = some e) (ht : s.coal.time ≠ 0) (he : e + 1 = s.coal.time) :
    s.tick = s.fire := by
  simp only [State.tick, h]
  exact if_pos ⟨ht, he⟩

theorem State.tick_counts {e : Nat} (h : s.coal.timer = some e) (he : s.coal.time = 0 ∨ e + 1 ≠ s.coal.time) :
    s.tick = s.setCoal { s.coal with timer := some (e + 1) } := by
  simp only [State.tick, h]
  exact if_neg fun k => he.elim k.1 fun hne => hne k.2

theorem Coalescer.expires_iff (c : Coalescer) : c.expires = true ↔ ∃ e, c.timer = some e ∧ c.time ≠ 0 ∧ e + 1 = c.time := by
  cases h : c.timer <;> simp [Coalescer.expires, h]

end

end Sys2Proof.Machine

namespace Sys2Proof.Proofs
open Sys2Proof.Machine

/-- Settles O26: the action, and the response by its validity. -/
theorem enableAndConfigLoad : Obligations.EnableAndConfigLoad := by
  unfold Obligations.EnableAndConfigLoad
  refine ⟨fun s upper h => ?_, fun s tag t hd he hk => ?_⟩
  · rw [State.exec_enable h]
    exact ⟨fun ho => congrArg Host.Outcome.next (if_pos ho), fun ho => congrArg Host.Outcome.next (if_neg ho)⟩
  · have hr : s.device.state ≠ .resetting := by rw [hd]; decide
    refine ⟨?_, fun bs hlen => ⟨fun hv => ?_, fun hv => ?_⟩⟩
    · rw [exec_response_taken rfl he hr, State.deliver_configRead hk, State.readWhole_error]
      rfl
    · rw [exec_response_taken rfl he hr, State.deliver_configRead hk, State.readWhole_okay _ _ _ _ hlen,
        State.configResponse_invalid hv]
      rfl
    · rw [exec_response_taken rfl he hr, State.deliver_configRead hk, State.readWhole_okay _ _ _ _ hlen,
        State.configResponse_loads (by exact hd) hv]
      rfl

/-- Settles O29: the tag decides, and the bytes are made up to the length of the read. -/
theorem responsesDiscarded : Obligations.ResponsesDiscarded := by
  unfold Obligations.ResponsesDiscarded
  refine ⟨fun s => ⟨fun c tag answer t hr he hc => ?_, fun hr he => ?_, fun h => ?_⟩, fun s tag => ⟨rfl, ?_, ?_, ?_⟩⟩
  · rw [exec_response hc, State.respond_resetting s tag answer t he hr]
    exact ⟨fun hempty => congrArg Host.Outcome.next (State.endReset_done (s.answered tag t) hr hempty),
      fun hempty => congrArg Host.Outcome.next (State.endReset_waits (s.answered tag t) fun k => hempty k.2)⟩
  · exact congrArg Host.Outcome.next (State.endReset_done s hr he)
  · exact congrArg Host.Outcome.next (State.endReset_waits s h)
  · intro c answer hc he
    rw [exec_response hc, State.respond_free s tag answer he]
  · intro c c' answer hc hc'
    rw [exec_response hc, exec_response hc']
  · intro t bs he hk
    obtain ⟨owner, howner⟩ := State.deliver_reads hk
    have hexec (x : List Byte) (u : State) (hu : u.port.entry tag = some t) (hr : u.device.state ≠ .resetting) :
        exec (.txReadResponse tag (.okay x)) u = .next ((u.answered tag t).readWhole t (.okay x) owner) := by
      rw [← howner]
      exact exec_response_taken (c := .txReadResponse tag (.okay x)) rfl hu hr
    refine ⟨fun hlen => ?_, fun hlen hr => ⟨freeBytesFrom s.freeBytes (t.length - bs.length), ?_, ?_⟩⟩
    · by_cases hr : s.device.state = .resetting
      · exact congrArg Host.Outcome.next ((State.respond_resetting s tag _ t he hr).trans (State.respond_resetting s tag _ t he hr).symm)
      · simp only [hexec _ s he hr]
        rw [State.readWhole_take _ bs owner hlen]
    · rw [freeBytesFrom_length]
      omega
    · rw [freeBytesFrom_length]
      refine (hexec bs s he hr).trans (.trans ?_ (hexec _ { s with freeBytes := s.freeBytes + (t.length - bs.length) } he hr).symm)
      rw [State.readWhole_short _ bs owner hlen]
      rfl

/-- Settles O50: the processor's state decides what the bytes are for. -/
theorem commandReadAnswered : Obligations.CommandReadAnswered := by
  unfold Obligations.CommandReadAnswered
  intro s tag t bs hr he hk hlen
  have hokay : exec (.cmdReadResponse tag (.okay bs)) s = .next ((s.answered tag t).cmdAnswer (.okay bs)) := by
    rw [exec_response_taken rfl he hr, State.deliver_cmdRead hk, State.readWhole_okay _ _ _ _ hlen]
  simp only [hokay]
  refine ⟨fun hf hd hg => ?_, fun hf hg => ?_, fun hs => ?_, ?_⟩
  · rw [State.cmdAnswer_fetched (s := s.answered tag t) hf]
    refine congrArg Host.Outcome.next (State.grantWaiting_granted _ ?_ ?_ ?_)
    · exact hd
    · rfl
    · exact ⟨hg.place, hg.held, hg.device, hg.links⟩
  · rw [State.cmdAnswer_fetched (s := s.answered tag t) hf]
    by_cases hd : s.device.state = .running
    · exact congrArg Host.Outcome.next (State.grantWaiting_waits _ fun k =>
        hg ⟨hd, k.2.place, k.2.held, k.2.device, k.2.links⟩)
    · exact congrArg Host.Outcome.next (if_neg fun k => hd ((State.running_iff _).mp k.1))
  · rw [State.cmdAnswer_dropped (by show s.cmd.state ≠ _; rw [hs]; decide)]
  · rw [exec_response_taken rfl he hr, State.deliver_cmdRead hk, State.readWhole_error]
    rfl

/-- Settles O44: the Writer advances and the coalescer counts, or the device faults. -/
theorem completionWriteAnswered : Obligations.CompletionWriteAnswered := by
  unfold Obligations.CompletionWriteAnswered
  intro s tag t q he hk hq hr
  refine ⟨?_, ?_⟩
  · rw [exec_response_taken rfl he hr, State.deliver_cplWrite hk]
    rfl
  · have hresp : exec (.cplWriteResponse tag .okay) s
        = .next (((s.answered tag t).setWriter (s.writer.advanced q.size)).countEntry.presentCpl) := by
      rw [exec_response_taken rfl he hr, State.deliver_cplWrite hk]
      exact congrArg Host.Outcome.next (State.cplResponse_okay (s := s.answered tag t) hq)
    refine ⟨_, hresp, ?_⟩
    obtain ⟨coal, cause, hcount⟩ := State.countEntry_rest ((s.answered tag t).setWriter (s.writer.advanced q.size))
    have hcoal : (((s.answered tag t).setWriter (s.writer.advanced q.size)).countEntry).coal = coal := by rw [hcount]
    have hcause : (((s.answered tag t).setWriter (s.writer.advanced q.size)).countEntry).irqCause = cause := by rw [hcount]
    have hfires (h : s.coal.counter + 1 = s.coal.count) :
        coal = { s.coal with counter := 0, timer := none } ∧ cause = { s.irqCause with completion := true } := by
      rw [← hcoal, ← hcause, State.countEntry_fires (by exact h)]
      exact ⟨rfl, rfl⟩
    have hcounts (h : s.coal.counter + 1 ≠ s.coal.count) :
        cause = s.irqCause ∧ coal = { s.coal with
          counter := s.coal.counter + 1, timer := if s.coal.counter = 0 then some 0 else s.coal.timer } := by
      rw [← hcoal, ← hcause, State.countEntry_counts (by exact h)]
      exact ⟨rfl, rfl⟩
    rw [hcount]
    by_cases hd : s.device.state = .running
    · rw [State.presentCpl_running (by exact hd)]
      refine ⟨rfl, hfires, hcounts, fun _ => ?_, fun hn => absurd hd hn, rfl⟩
      rw [← Writer.advanced_wantsWrite hq]
      rfl
    · rw [State.presentCpl_not_running (by exact hd)]
      exact ⟨rfl, hfires, hcounts, fun hn => absurd hn hd, fun _ => rfl, rfl⟩

/-- Settles O54: firing, counting, and the rows whose condition does not hold. -/
theorem coalescerFires : Obligations.CoalescerFires := by
  unfold Obligations.CoalescerFires
  intro s
  have htick (hlow : s.device.resetLow = false) : exec .timebaseTick s = .next s.tick := by
    refine congrArg Host.Outcome.next (if_neg ?_)
    rw [hlow]
    decide
  refine ⟨fun h => congrArg Host.Outcome.next (if_pos h), fun h => congrArg Host.Outcome.next (if_neg h), fun hlow => ⟨?_, ?_, ?_⟩⟩
  · intro e he ht hlast
    refine ⟨congrArg Host.Outcome.next (if_pos ⟨(Coalescer.expires_iff _).mpr ⟨e, he, ht, hlast⟩, hlow⟩), ?_⟩
    rw [htick hlow, State.tick_fires he ht hlast]
    rfl
  · intro e he hgoes
    refine ⟨congrArg Host.Outcome.next (if_neg fun k => ?_), ?_⟩
    · obtain ⟨e', he', ht, hlast⟩ := (Coalescer.expires_iff _).mp k.1
      cases he.symm.trans he'
      exact hgoes.elim ht fun hne => hne hlast
    · rw [htick hlow, State.tick_counts he hgoes]
      rfl
  · intro he
    refine ⟨congrArg Host.Outcome.next (if_neg fun k => ?_), ?_⟩
    · obtain ⟨e', he', -⟩ := (Coalescer.expires_iff _).mp k.1
      cases he.symm.trans he'
    · rw [htick hlow]
      simp only [State.tick, he]

end Sys2Proof.Proofs
end

section
/-! PROOFS. The answers to the pieces of a slot list, posts of a producer index, and what a notice makes of a channel. -/

set_option Elab.async false

namespace Sys2Proof.Machine

/-! ## The answers to a piece (R25, R30) -/

section
variable {s : State} {tag : TagId} {t : Transaction} {x : ListTransfer} {k : Nat} {c : Instr} {bs : List Byte} {ok : Bool}

/-- The response rows of a read list. -/
abbrev ListReadRow (x : ListTransfer) (t : Transaction) (tag : TagId) (c : Instr) (bs : List Byte) (ok : Bool) : Prop :=
  t.kind = .listRead ∧ x.dir = .readList
    ∧ (ok = true ∧ c = .listReadResponse tag (.okay bs) ∨ ok = false ∧ c = .listReadResponse tag .error)

/-- The response rows of a written copy. -/
abbrev ListWriteRow (x : ListTransfer) (t : Transaction) (tag : TagId) (c : Instr) (ok : Bool) : Prop :=
  t.kind = .listWrite ∧ x.dir = .writeCopy
    ∧ (ok = true ∧ c = .listWriteResponse tag .okay ∨ ok = false ∧ c = .listWriteResponse tag .error)

/-- The transfer with one more piece answered, and the bytes of a read piece held (R25). -/
def ListTransfer.answeredWith (x : ListTransfer) (k : Nat) (bs : List Byte) (ok : Bool) : ListTransfer :=
  { x with answered := x.answered + 1, error := x.error || !ok
           held := if ok = true ∧ x.dir = .readList then x.held ++ [(k, bs)] else x.held }

/-- A row that answers a piece reaches the transfer with its result. -/
theorem exec_piece (hr : s.device.state ≠ .resetting) (he : s.port.entry tag = some t) (href : t.ref = .piece k)
    (hlen : bs.length = t.length) (h : ListReadRow x t tag c bs ok ∨ ListWriteRow x t tag c ok) :
    ∃ result, exec c s = .next ((s.answered tag t).pieceResponse k result)
      ∧ x.answer k result = x.answeredWith k bs ok := by
  have hexec {row : Instr} {result : ReadResult} (hrow : responseOf row = some (tag, result))
      (hk : t.kind = .listRead ∨ t.kind = .listWrite)
      (hb : ∀ xs, result = .okay xs → t.kind = .listRead → xs.length = t.length) :
      exec row s = .next ((s.answered tag t).pieceResponse k result) := by
    rw [exec_response_taken hrow he hr, State.deliver_list hk href hb]
  have hread : t.kind = .listRead → ∀ xs, ReadResult.okay bs = .okay xs → t.kind = .listRead → xs.length = t.length := by
    intro _ xs hxs _
    cases hxs
    exact hlen
  rcases h with ⟨hk, hd, ⟨rfl, rfl⟩ | ⟨rfl, rfl⟩⟩ | ⟨hk, hd, ⟨rfl, rfl⟩ | ⟨rfl, rfl⟩⟩
  · refine ⟨.okay bs, hexec rfl (.inl hk) (hread hk), ?_⟩
    simp [ListTransfer.answer_read hd, ListTransfer.answeredWith, hd]
  · refine ⟨.error, hexec rfl (.inl hk) (fun xs hxs => by cases hxs), ?_⟩
    simp [ListTransfer.answer, ListTransfer.answeredWith]
  · refine ⟨.okay [], hexec rfl (.inr hk) (fun xs _ hn => by rw [hk] at hn; cases hn), ?_⟩
    simp [ListTransfer.answer_write hd, ListTransfer.answeredWith, hd]
  · refine ⟨.error, hexec rfl (.inr hk) (fun xs hxs => by cases hxs), ?_⟩
    simp [ListTransfer.answer, ListTransfer.answeredWith]

end

end Sys2Proof.Machine

namespace Sys2Proof.Proofs
open Sys2Proof.Machine

/-- Settles O51: each row answers its piece, and the last one ends the transfer as it stands then. -/
theorem listTransferAnswered : Obligations.ListTransferAnswered := by
  unfold Obligations.ListTransferAnswered
  intro s tag t x k c bs ok hr he href hx hlen read write hrow
  obtain ⟨result, hexec, hy⟩ := exec_piece hr he href hlen hrow
  intro y free last ended report
  have hanswer : x.answer k result = y := hy
  have hfree : (s.answered tag t).pieceAnswered y = { free with transfer := some y } := rfl
  have hended : (((s.answered tag t).pieceAnswered y).letGo y.window).setTransfer none = ended := rfl
  have hresp : exec c s = .next (if y.over then ((s.answered tag t).pieceAnswered y).endTransfer y
      else (s.answered tag t).pieceAnswered y) := by
    rw [hexec, State.pieceResponse_eq (s := s.answered tag t) hx, hanswer]
  have hover : last → exec c s = .next (((s.answered tag t).pieceAnswered y).endTransfer y) := fun hl => by
    rw [hresp, if_pos ((ListTransfer.over_iff y).mpr hl)]
  have hreport (st : Status) : ended.transferDone y st = report st := ended.transferDone_eq y st
  refine ⟨fun hl => ?_, fun hl hstop => ?_, fun hl hstop hd => ?_⟩
  · rw [hresp, if_neg fun h => hl ((ListTransfer.over_iff y).mp h), hfree]
  · rw [hover hl, State.endTransfer_stopped (y := y) hstop, hended]
  · have heffect : exec c s = .next (ended.transferEffect y) := by
      rw [hover hl, State.endTransfer_effect (y := y) hstop, hended]
    rw [heffect]
    refine ⟨fun herr => ?_, fun hw herr => ?_, fun hread herr n hbad => ?_, fun hread herr hbad => ?_⟩
    · rw [State.transferEffect_error (y := y) herr, hreport]
      exact next_of_complete hd rfl
    · rw [State.transferEffect_copied (y := y) herr hw.2.1, hreport]
      exact next_of_complete hd rfl
    · rw [State.transferEffect_bad (y := y) herr hread.2.1 hbad, hreport]
      exact next_of_complete hd rfl
    · rw [State.transferEffect_applies (y := y) herr hread.2.1 hbad, hreport]
      exact next_of_complete hd rfl

end Sys2Proof.Proofs
end

section
/-! PROOFS. The end of a pass (R90, R93, R94), and the posts of a producer index (R81, R82), which make its decision again. -/

set_option Elab.async false

namespace Sys2Proof.Machine

/-! ## The CURRENT record of a list -/

section
variable {ch : Channel} {older newer : List BufferRecord} {r : BufferRecord}

theorem Channel.current?_of_split (hl : ch.list = older ++ r :: newer) (ho : ∀ x ∈ older, x.state ≠ .current)
    (hr : r.state = .current) : ch.current? = some r := by
  have hnone : older.find? (fun x => x.state == .current) = none := by
    simpa [List.find?_eq_none] using ho
  rw [Channel.current?, hl, List.find?_append, hnone]
  simp [hr]

theorem Channel.current?_state {r : BufferRecord} (h : ch.current? = some r) : r.state = .current := by
  simpa [Channel.current?] using List.find?_some h

theorem Channel.current?_mem {r : BufferRecord} (h : ch.current? = some r) : r ∈ ch.list := List.mem_of_find?_eq_some h

theorem Channel.current?_none_iff : ch.current? = none ↔ ∀ x ∈ ch.list, x.state ≠ .current := by
  simp [Channel.current?, List.find?_eq_none]

/-- A change of the CURRENT record changes that record alone. -/
theorem map_current_of_split (f : BufferRecord → BufferRecord) (hl : ch.list = older ++ r :: newer)
    (ho : ∀ x ∈ older ++ newer, x.state ≠ .current) (hr : r.state = .current) :
    (ch.list.map fun x => if x.state = .current then f x else x) = older ++ f r :: newer := by
  have hid (l : List BufferRecord) (h : ∀ x ∈ l, x.state ≠ .current) :
      (l.map fun x => if x.state = .current then f x else x) = l :=
    (List.map_congr_left fun x hx => if_neg (h x hx)).trans (List.map_id' l)
  rw [hl, List.map_append, List.map_cons, hid older fun x hx => ho x (by simp [hx]),
    hid newer fun x hx => ho x (by simp [hx]), if_pos hr]

/-! ## The end of a pass -/

theorem Channel.passEnd_none (h : ch.current? = none) : ch.passEnd = ch := by simp only [Channel.passEnd, h]

/-- Before the last frame is issued nothing happens (R90). -/
theorem Channel.passEnd_before (h : ∀ r, ch.current? = some r → r.pass.issued < r.frames) : ch.passEnd = ch := by
  cases hc : ch.current? with
  | none => exact Channel.passEnd_none hc
  | some r =>
    simp only [Channel.passEnd, hc]
    exact if_pos (h r hc)

theorem Channel.passEnd_closing (hc : ch.current? = some r) (hfull : r.frames ≤ r.pass.issued) (hs : ch.state = .closing) :
    ch.passEnd = ch.flushFull := by
  simp only [Channel.passEnd, hc]
  rw [if_neg (Nat.not_lt.mpr hfull), if_pos hs]

theorem Channel.passEnd_last (hc : ch.current? = some r) (hfull : r.frames ≤ r.pass.issued) (hs : ch.state ≠ .closing)
    (hlast : r.repeated = false ∨ ch.lastPass r = true) : ch.passEnd = ch.drain.promote := by
  have hlast : (!r.repeated || ch.lastPass r) = true := by simpa using hlast
  simp only [Channel.passEnd, hc]
  rw [if_neg (Nat.not_lt.mpr hfull), if_neg hs, if_pos hlast]

theorem Channel.passEnd_repeats (hc : ch.current? = some r) (hfull : r.frames ≤ r.pass.issued) (hs : ch.state ≠ .closing)
    (hrep : r.repeated = true) (hlast : ch.lastPass r = false) :
    ch.passEnd = if 4 ≤ r.passCpls.length then ch
      else ch.mapRecords fun x => if x.state = .current then x.newPass else x := by
  simp only [Channel.passEnd, hc]
  rw [if_neg (Nat.not_lt.mpr hfull), if_neg hs, if_neg (by simp [hrep, hlast])]
  rfl

theorem BufferRecord.untouched_iff (x : BufferRecord) : x.untouched = true ↔ x.state = .next ∨ ∃ why, x.state = .poisoned why := by
  cases h : x.state <;> simp [BufferRecord.untouched, RecState.isPoisoned, h]

theorem Channel.lastPass_iff (hl : ch.list = older ++ r :: newer) (ho : ∀ x ∈ older, x.untouched = false)
    (hr : r.state = .current) (hn : newer = [] ∨ ∃ x ∈ newer, x.untouched = true) :
    ch.lastPass r = true ↔ newer ≠ [] ∨ 1 < (ch.producer - r.ring).toNat := by
  have hru : r.untouched = false := by simp [BufferRecord.untouched, RecState.isPoisoned, hr]
  have hany : ch.list.any BufferRecord.untouched = true ↔ newer ≠ [] := by
    rw [hl, List.any_eq_true]
    constructor
    · rintro ⟨x, hx, hu⟩ rfl
      simp only [List.mem_append, List.mem_cons, List.not_mem_nil, or_false] at hx
      rcases hx with hx | rfl
      · exact absurd hu (by simp [ho x hx])
      · exact absurd hu (by simp [hru])
    · intro hne
      obtain ⟨x, hx, hu⟩ := hn.resolve_left hne
      exact ⟨x, by simp [hx], hu⟩
  rw [Channel.lastPass, Bool.or_eq_true, hany, decide_eq_true_eq]
  rfl

/-- Without a record behind it the channel is STARVED (R90). -/
theorem Channel.promote_none (h : ch.list.find? BufferRecord.untouched = none) : ch.promote = { ch with state := .starved } := by
  simp only [Channel.promote, h]

theorem Channel.promote_next {x : BufferRecord} (h : ch.list.find? BufferRecord.untouched = some x) (hx : x.state = .next) :
    ch.promote = { ch.mapRecord x.ring (fun y =>
      { y with state := .current, pass := if ch.gapMark then y.pass.setGap else y.pass }) with
        state := .active, gapMark := false } := by
  simp only [Channel.promote, h, hx]

theorem Channel.promote_poisoned {x : BufferRecord} {why : HaltCause} (h : ch.list.find? BufferRecord.untouched = some x)
    (hx : x.state = .poisoned why) : ch.promote = ch.poisonHalt why := by
  simp only [Channel.promote, h, hx]

/-- The oldest record that has not begun stands right behind the records that have. -/
theorem find_untouched_behind (l rest : List BufferRecord) (x : BufferRecord) (h : ∀ y ∈ l, y.untouched = false)
    (hx : x.untouched = true) : (l ++ x :: rest).find? BufferRecord.untouched = some x := by
  have hnone : l.find? BufferRecord.untouched = none := by simpa [List.find?_eq_none] using h
  rw [List.find?_append, hnone]
  simp [hx]

/-- The record as a drain leaves it (R90). -/
def BufferRecord.drained (x : BufferRecord) : BufferRecord := if x.state = .current then { x with state := .draining } else x

theorem Channel.drain_list (ch : Channel) : ch.drain.list = ch.list.map BufferRecord.drained := rfl

theorem BufferRecord.drained_current {x : BufferRecord} (h : x.state = .current) : x.drained = { x with state := .draining } := if_pos h

theorem BufferRecord.drained_other {x : BufferRecord} (h : x.state ≠ .current) : x.drained = x := if_neg h

theorem setGap_if (p : Pass) (b : Bool) : (if b then p.setGap else p) = { p with gap := p.gap || b } := by
  cases b <;> simp [Pass.setGap]

/-- A change of the record with a ring index changes that record alone. -/
theorem map_ring_of_split {l : List BufferRecord} (f : BufferRecord → BufferRecord) (hl : l = older ++ r :: newer)
    (ho : ∀ y ∈ older ++ newer, y.ring ≠ r.ring) :
    (l.map fun y => if y.ring = r.ring then f y else y) = older ++ f r :: newer := by
  have hid (k : List BufferRecord) (h : ∀ x ∈ k, x.ring ≠ r.ring) :
      (k.map fun x => if x.ring = r.ring then f x else x) = k :=
    (List.map_congr_left fun x hx => if_neg (h x hx)).trans (List.map_id' k)
  rw [hl, List.map_append, List.map_cons, hid older fun x hx => ho x (by simp [hx]),
    hid newer fun x hx => ho x (by simp [hx]), if_pos rfl]

/-! ## What the end of a pass leaves of the producer index -/

theorem Channel.poisonHalt_producer (ch : Channel) (why : HaltCause) : (ch.poisonHalt why).producer = ch.producer :=
  (ch.discard_kept true).producer

theorem Channel.promote_producer (ch : Channel) : ch.promote.producer = ch.producer := by
  unfold Channel.promote
  split
  · rfl
  · split
    · exact ch.poisonHalt_producer _
    · rfl

theorem Channel.passEnd_producer (ch : Channel) : ch.passEnd.producer = ch.producer := by
  unfold Channel.passEnd
  split
  · rfl
  · split
    · rfl
    · split
      · exact (ch.drain.discard_kept false).producer
      · split
        · exact ch.drain.promote_producer
        · split <;> rfl

theorem State.update_producer (s : State) (c : ChanId) (r : Channel × List WinId) :
    ((s.update c r).chan c).producer = r.1.producer := by
  rcases s.update_chan c r with ⟨-, h⟩ | ⟨-, h | h⟩
  · rw [h]
  · rw [h]
    exact (r.1.settle_spec c).1.producer
  · rw [h]
    exact (r.1.settle_spec c).1.producer

end

/-! ## Posts of a producer index (R81, R82) -/

theorem State.exec_chanPost {s : State} {v : U32} {c : ChanId} (h : s.device.resetLow = false) (hc : c.val = v.toNat / 2 ^ 16 % 64) :
    exec (.chanPostWrite v) s = .next (s.postProducer c (v.setWidth 16)) := by
  have hchan : postChannel v = c := by
    apply Fin.ext
    show (v.extractLsb' 16 6).toNat = c.val
    rw [BitVec.extractLsb'_toNat, Nat.shiftRight_eq_div_pow, hc]
  have hindex : postIndex v = v.setWidth 16 := by
    apply BitVec.eq_of_toNat_eq
    simp [postIndex]
  refine congrArg Host.Outcome.next ((State.hostWrite_high h .chanPost v).trans ?_)
  simp only [State.writeReg, hchan, hindex]

section
variable {s : State} {c : ChanId} {index : U16}

theorem Channel.postInRange_iff (ch : Channel) (index : U16) : ch.postInRange index = true ↔
    (index - ch.consumed).toNat ≤ ch.cfg.ringSize ∧ (index - ch.producer).toNat ≤ ch.cfg.ringSize := by
  rw [Channel.postInRange, Bool.and_eq_true, decide_eq_true_eq, decide_eq_true_eq]
  rfl

theorem State.postProducer_not_open (h : (s.chan c).isOpen = false) :
    s.postProducer c index = s.rejectPost .post (some c) (index.setWidth 32) .notOpen := by
  simp [State.postProducer, h]

theorem State.postProducer_range (ho : (s.chan c).isOpen = true) (h : ¬ (s.chan c).postInRange index = true) :
    s.postProducer c index = s.rejectPost .post (some c) (index.setWidth 32) .range := by
  simp [State.postProducer, ho, h]

theorem State.postProducer_accepts (ho : (s.chan c).isOpen = true) (h : (s.chan c).postInRange index = true) :
    s.postProducer c index = s.acceptPost c index := by
  simp [State.postProducer, ho, h]

end

end Sys2Proof.Machine

namespace Sys2Proof.Proofs
open Sys2Proof.Machine

/-- Settles O25: the three answers to a post, and the record that a rejection forms or merges into. -/
theorem channelPostsAndRejections : Obligations.ChannelPostsAndRejections := by
  unfold Obligations.ChannelPostsAndRejections
  refine ⟨fun s v c hlow hc => ?_, fun s k c index why => ?_⟩
  · rw [State.exec_chanPost hlow hc]
    refine ⟨fun hst => ?_, fun ho hrange => ?_, fun ho hrange hr => ?_, fun ho hrange hr hs hb => ?_, fun ho hrange hr => ?_⟩
    · have hclosed : (s.chan c).isOpen = false := by rcases hst with h | h <;> simp [Channel.isOpen, h]
      rw [State.postProducer_not_open hclosed]
    · rw [State.postProducer_range ho fun h => hrange ((Channel.postInRange_iff _ _).mp h)]
    · rw [State.postProducer_accepts ho ((Channel.postInRange_iff _ _).mpr hrange)]
      exact congrArg Host.Outcome.next (if_pos hr)
    · rw [State.postProducer_accepts ho ((Channel.postInRange_iff _ _).mpr hrange)]
      refine congrArg Host.Outcome.next ((if_neg hr).trans ?_)
      have hnc : (s.chan c).state ≠ .closing := by
        rcases (Channel.isOpen_iff _).mp ho with h | h | h <;> rw [h] <;> decide
      rw [Channel.passEnd_before (by exact hb)]
      exact State.update_settled s c _ (hs.of_same hnc (by exact hnc) rfl rfl rfl rfl rfl) hnc
    · rw [State.postProducer_accepts ho ((Channel.postInRange_iff _ _).mpr hrange)]
      refine ⟨s.update c (({ s.chan c with producer := v.setWidth 16 } : Channel).passEnd, []),
        congrArg Host.Outcome.next (if_neg hr), ?_, s.update_only _ c _ rfl⟩
      rw [State.update_producer, Channel.passEnd_producer]
  · have hkind (x : PostKind) : (k == x) = decide (k = x) := by cases k <;> cases x <;> rfl
    refine ⟨fun h => ?_, fun e h hm => ?_⟩
    · simp only [State.rejectPost, DeviceEvent.note, h, hkind]
      rfl
    · simp only [State.rejectPost, DeviceEvent.note, h, hkind, satCount_eq_min hm]
      rfl

/-- Settles O52: the decision at the end of a pass, branch by branch. -/
theorem passEndDrainsOrRepeats : Obligations.PassEndDrainsOrRepeats := by
  unfold Obligations.PassEndDrainsOrRepeats
  refine ⟨fun ch older newer r ⟨hl, _⟩ hr ho => ?_, fun ch older newer r hst ⟨hl, hring⟩ hr hbegun hfull => ?_⟩
  · have hcur : ch.current? = some r := Channel.current?_of_split hl (fun x hx => ho x (by simp [hx])) hr
    refine ⟨fun hb => Channel.passEnd_before fun x hx => ?_, fun hs hd hfull => ?_⟩
    · cases hcur.symm.trans hx
      exact hb
    · have hlist : ch.drain = { ch with list := older ++ { r with state := .draining } :: newer } := by
        simp only [Channel.drain, Channel.mapRecords, map_current_of_split _ hl ho hr]
      have hdir : ({ ch with list := older ++ { r with state := .draining } :: newer } : Channel).cfg.dir = .rx := hd
      rw [Channel.passEnd_closing hcur hfull hs, Channel.flushFull, hlist]
      simp only [Channel.discard, hdir]
      rfl
  · have holder (x : BufferRecord) (hx : x ∈ older) : x.state ≠ .current ∧ x.untouched = false := by
      rcases hbegun x hx with h | h | h <;> simp [BufferRecord.untouched, RecState.isPoisoned, h]
    have hcur : ch.current? = some r := Channel.current?_of_split hl (fun x hx => (holder x hx).1) hr
    have hnc : ch.state ≠ .closing := by rw [hst]; decide
    have hdrained : (({ r with state := .draining } : BufferRecord)).untouched = false := rfl
    have hdrain (hn : ∀ x ∈ newer, x.state ≠ .current) :
        ch.drain.list = older ++ { r with state := .draining } :: newer :=
      map_current_of_split _ hl (fun x hx => (List.mem_append.mp hx).elim (fun h => (holder x h).1) (hn x)) hr
    refine ⟨fun hlast hn => ?_, fun x rest hn hx hrings hrest => ?_, fun x rest why hn hx => ?_, fun hlast hfew => ?_, fun hlast hmany => ?_⟩
    · subst hn
      have hlast : r.repeated = false ∨ ch.lastPass r = true := by
        rwa [Channel.lastPass_iff hl (fun x hx => (holder x hx).2) hr (.inl rfl)]
      have hlist := hdrain (by simp)
      have hnone : ch.drain.list.find? BufferRecord.untouched = none := by
        rw [hlist, List.find?_eq_none]
        simp only [List.mem_append, List.mem_cons, List.not_mem_nil, or_false]
        rintro y (hy | rfl)
        · simp [(holder y hy).2]
        · simp [hdrained]
      rw [Channel.passEnd_last hcur hfull hnc hlast, Channel.promote_none hnone]
      simp only [Channel.drain, Channel.mapRecords] at hlist ⊢
      rw [hlist]
    · subst hn
      have hu : x.untouched = true := by simp [BufferRecord.untouched, hx]
      have hlast : ch.lastPass r = true :=
        (Channel.lastPass_iff hl (fun x hx => (holder x hx).2) hr (.inr ⟨x, by simp, hu⟩)).mpr (.inl (by simp))
      have hlist := hdrain fun y hy => by
        rcases List.mem_cons.mp hy with rfl | hy
        · rw [hx]; decide
        · exact hrest y hy
      have hsplit : ch.drain.list = (older ++ [{ r with state := .draining }]) ++ x :: rest := by rw [hlist]; simp
      have hfind : ch.drain.list.find? BufferRecord.untouched = some x := by
        rw [hsplit]
        refine find_untouched_behind _ rest x (fun y hy => ?_) hu
        simp only [List.mem_append, List.mem_cons, List.not_mem_nil, or_false] at hy
        rcases hy with hy | rfl
        · exact (holder y hy).2
        · exact hdrained
      have hothers : ∀ y ∈ (older ++ [{ r with state := .draining }]) ++ rest, y.ring ≠ x.ring := by
        intro y hy
        simp only [List.mem_append, List.mem_cons, List.not_mem_nil, or_false] at hy
        rcases hy with (hy | rfl) | hy
        · exact hrings y (by simp [hy])
        · exact fun e => hring x (by simp) e.symm
        · exact hrings y (by simp [hy])
      rw [Channel.passEnd_last hcur hfull hnc (.inr hlast), Channel.promote_next hfind hx, Channel.mapRecord, Channel.mapRecords,
        map_ring_of_split _ hsplit hothers]
      simp only [setGap_if, Channel.drain, Channel.mapRecords, hst, List.append_assoc, List.cons_append, List.nil_append]
    · subst hn
      have hu : x.untouched = true := (BufferRecord.untouched_iff x).mpr (.inr ⟨why, hx⟩)
      have hlast : ch.lastPass r = true :=
        (Channel.lastPass_iff hl (fun x hx => (holder x hx).2) hr (.inr ⟨x, by simp, hu⟩)).mpr (.inl (by simp))
      have hfind : ch.drain.list.find? BufferRecord.untouched = some x := by
        have hxd : x.drained = x := BufferRecord.drained_other (by rw [hx]; nofun)
        have hsplit : ch.drain.list = (older ++ [r]).map BufferRecord.drained ++ x :: rest.map BufferRecord.drained := by
          simp [Channel.drain_list, hl, hxd]
        rw [hsplit]
        refine find_untouched_behind _ _ x (fun y hy => ?_) hu
        obtain ⟨z, hz, rfl⟩ := List.mem_map.mp hy
        rcases List.mem_append.mp hz with hz | hz
        · rw [BufferRecord.drained_other (holder z hz).1]
          exact (holder z hz).2
        · rw [List.mem_singleton.mp hz, BufferRecord.drained_current hr]
          exact hdrained
      rw [Channel.passEnd_last hcur hfull hnc (.inr hlast), Channel.promote_poisoned hfind hx]
      exact ch.drain.poisonHalt_spec why
    all_goals
      obtain ⟨hrep, hbehind⟩ := not_or.mp hlast
      obtain ⟨hn, hproducer⟩ := not_or.mp hbehind
      have hn : newer = [] := not_not.mp hn
      subst hn
      have hlast : ch.lastPass r = false := by
        rw [← Bool.not_eq_true, Channel.lastPass_iff hl (fun x hx => (holder x hx).2) hr (.inl rfl)]
        simpa using hproducer
      rw [Channel.passEnd_repeats hcur hfull hnc (by simpa using hrep) hlast]
    · rw [if_neg (by omega), Channel.mapRecords, map_current_of_split _ hl (fun x hx => (holder x (by simpa using hx)).1) hr]
      rfl
    · rw [if_pos hmany]

end Sys2Proof.Proofs
end

section
/-! PROOFS. The requests that wait at the Memory Port (R72, R74, R78, R83), the arbiter's choice (R126, R127) and the grants of
completion writes, descriptor reads and class 4. -/

set_option Elab.async false

namespace Sys2Proof.Machine

/-! ## When a request is wanted -/

theorem Channel.formation_isSome_iff (ch : Channel) : (∃ q, ch.formation = some q) ↔ ∃ q ∈ ch.requests, q.inFormation = true := by
  rw [← Option.isSome_iff_exists, Channel.formation, List.find?_isSome]

theorem Channel.wholeRun_pos_groups {ch : Channel} (h : 1 ≤ ch.wholeRun) : ch.groups.isEmpty = false := by
  cases hg : ch.groups with
  | nil => simp [Channel.wholeRun, hg] at h
  | cons g gs => rfl

theorem Channel.graceful_iff (ch : Channel) : ch.closeRec.map CloseRecord.mode = some .graceful
    ↔ ∃ tag, ch.closeRec = some { mode := .graceful, tag := tag } := by
  cases h : ch.closeRec with
  | none => simp
  | some r =>
    obtain ⟨mode, tag⟩ := r
    simp

/-- A flush wants to write while whole groups stand at the head (R50). -/
theorem Channel.flushes_iff {ch : Channel} (hd : ch.cfg.dir = .rx) : (ch.flushing = true ∧ 1 ≤ ch.wholeRun)
    ↔ ch.state = .closing ∧ (∃ tag, ch.closeRec = some { mode := .graceful, tag := tag }) ∧ 1 ≤ ch.wholeRun := by
  rw [← ch.graceful_iff]
  simp only [Channel.flushing, Bool.and_eq_true, beq_iff_eq, hd, Bool.not_eq_true']
  constructor
  · rintro ⟨⟨⟨⟨hs, hm⟩, -⟩, -⟩, hw⟩
    exact ⟨hs, hm, hw⟩
  · rintro ⟨hs, hm, hw⟩
    exact ⟨⟨⟨⟨hs, hm⟩, trivial⟩, Channel.wholeRun_pos_groups hw⟩, hw⟩

/-- The conditions of a new request in its direction (R72, R74). -/
def Channel.Begins (ch : Channel) (r : BufferRecord) : Prop :=
  match ch.cfg.dir with
  | .rx => (ch.state = .active ∧ (ch.cfg.threshold ≤ ch.wholeRun ∨ r.frames - r.pass.issued ≤ ch.wholeRun))
      ∨ (ch.state = .closing ∧ (∃ tag, ch.closeRec = some { mode := .graceful, tag := tag }) ∧ 1 ≤ ch.wholeRun)
  | .tx => ch.state = .active ∧ ch.cfg.threshold ≤ 32 / ch.cfg.lanes - ch.groups.length

theorem Channel.wantsFirst_iff (ch : Channel) :
    ch.wantsFirst = true ↔ ∃ r, ch.current? = some r ∧ r.pass.issued < r.frames ∧ ch.Begins r := by
  cases hc : ch.current? with
  | none => simp [Channel.wantsFirst, hc]
  | some r =>
    simp only [Channel.wantsFirst, hc, Bool.and_eq_true, decide_eq_true_eq, Option.some.injEq, exists_eq_left', Channel.Begins]
    refine and_congr_right fun _ => ?_
    cases hd : ch.cfg.dir with
    | rx =>
      simp only [Bool.or_eq_true, Bool.and_eq_true, beq_iff_eq, decide_eq_true_eq]
      exact or_congr_right (Channel.flushes_iff hd)
    | tx =>
      simp only [Bool.and_eq_true, beq_iff_eq, decide_eq_true_eq]
      exact Iff.rfl

theorem Channel.wantsData_iff (ch : Channel) (n : Nat) : ch.wantsData n = true ↔ n < 2 ∧ ((∃ q ∈ ch.requests, q.inFormation = true)
    ∨ ∃ r, ch.current? = some r ∧ r.pass.issued < r.frames ∧ ch.Begins r) := by
  rw [Channel.wantsData, Bool.and_eq_true, decide_eq_true_eq, ← ch.wantsFirst_iff, ← ch.formation_isSome_iff]
  refine and_congr_right fun _ => ?_
  cases hf : ch.formation <;> simp

theorem RecState.isPoisoned_false_iff (x : RecState) : x.isPoisoned = false ↔ ∀ why, x ≠ .poisoned why := by
  cases x <;> simp [RecState.isPoisoned]

theorem Channel.wantsDesc_iff (ch : Channel) : ch.wantsDesc = true ↔
    (ch.state = .starved ∨ ch.state = .active) ∧ ch.fetch ≠ ch.producer ∧ ch.list.length < 3
      ∧ (∀ r, ch.list.getLast? = some r → ∀ why, r.state ≠ .poisoned why) ∧ ch.descRead = .none := by
  have hflow : ch.flowing = true ↔ ch.state = .starved ∨ ch.state = .active := by simp [Channel.flowing]
  have hlen : decide (ch.list.length < heldRecords) = true ↔ ch.list.length < 3 := decide_eq_true_iff
  cases hg : ch.list.getLast? with
  | none => simp only [Channel.wantsDesc, hg, Bool.and_eq_true, hlen, hflow]; simp [and_assoc]
  | some r => simp only [Channel.wantsDesc, hg, Bool.and_eq_true, hlen, hflow]; simp [and_assoc, RecState.isPoisoned_false_iff]

/-! ## The bits of the Memory Port -/

theorem Port.waitData_setWaitData_same (p : Port) (pr : Priority) (c : ChanId) (b : Bool) :
    (p.setWaitData pr c b).waitData pr c = b := by
  cases pr <;> simp [Port.setWaitData, Port.waitData]

theorem Port.waitData_setWaitData_chan (p : Port) (pr x : Priority) {c k : ChanId} (b : Bool) (h : k ≠ c) :
    (p.setWaitData pr c b).waitData x k = p.waitData x k := by
  have hne : c.val ≠ k.val := fun e => h (Fin.ext e.symm)
  cases pr <;> cases x <;> simp [Port.setWaitData, Port.waitData, hne]

theorem Port.waitData_setWaitData_class (p : Port) {pr x : Priority} (c k : ChanId) (b : Bool) (h : x ≠ pr) :
    (p.setWaitData pr c b).waitData x k = p.waitData x k := by
  cases pr <;> cases x <;> simp_all [Port.setWaitData, Port.waitData]

theorem Port.waitData_setWaitDesc (p : Port) (x : Priority) (c k : ChanId) (b : Bool) :
    (p.setWaitDesc c b).waitData x k = p.waitData x k := by cases x <;> rfl

theorem Port.waitDesc_setWaitDesc (p : Port) (c k : ChanId) (b : Bool) :
    (p.setWaitDesc c b).waitDesc k = if k = c then b else p.waitDesc k := by
  by_cases h : k = c
  · subst h
    simp [Port.setWaitDesc, Port.waitDesc]
  · have hne : c.val ≠ k.val := fun e => h (Fin.ext e.symm)
    simp [Port.setWaitDesc, Port.waitDesc, h, hne]

theorem Port.waitDesc_setWaitData (p : Port) (pr : Priority) (c k : ChanId) (b : Bool) :
    (p.setWaitData pr c b).waitDesc k = p.waitDesc k := by cases pr <;> rfl

/-- A presentation changes the bits of classes 1 to 3 alone. -/
theorem State.present_waits (s : State) (c : ChanId) :
    ∃ w1 w2 w3, s.present c = { s with port := { s.port with wait1 := w1, wait2 := w2, wait3 := w3 } } := by
  unfold State.present
  simp only []
  cases (s.chan c).cfg.priority
  · exact ⟨_, _, _, rfl⟩
  · exact ⟨_, _, _, rfl⟩

theorem State.present_port (s : State) (c : ChanId) : (s.present c).port =
    (s.port.setWaitData (s.chan c).cfg.priority c
      ((s.chan c).wantsData (s.port.data c) && (s.running || s.port.waitData (s.chan c).cfg.priority c))).setWaitDesc c
      ((s.chan c).wantsDesc && (s.running || s.port.waitDesc c)) := rfl

theorem State.present_waitData (s : State) (c : ChanId) :
    (s.present c).port.waitData (s.chan c).cfg.priority c
      = ((s.chan c).wantsData (s.port.data c) && (s.running || s.port.waitData (s.chan c).cfg.priority c)) := by
  rw [State.present_port, Port.waitData_setWaitDesc, Port.waitData_setWaitData_same]

theorem State.present_waitDesc (s : State) (c : ChanId) :
    (s.present c).port.waitDesc c = ((s.chan c).wantsDesc && (s.running || s.port.waitDesc c)) := by
  rw [State.present_port, Port.waitDesc_setWaitDesc, if_pos rfl]

/-! ## Round robin (R112, R127) -/

/-- The first channel after the pointer is the first of the round robin. -/
theorem find_roundRobin {pointer c : ChanId} {P : ChanId → Prop} {p : ChanId → Bool} (hp : ∀ d, p d = true ↔ P d)
    (h : FirstAfter pointer P c) : (roundRobin pointer).find? p = some c := by
  have hc : pointer + 1 + (c - (pointer + 1)) = c := by rw [add_comm, sub_add_cancel]
  have hfind : (List.finRange 64).find? (p ∘ fun i => pointer + 1 + i) = some (c - (pointer + 1)) := by
    rw [find_finRange]
    refine ⟨?_, fun k hk hpk => ?_⟩
    · rw [Function.comp, hc]
      exact (hp c).mpr h.1
    · have hle := h.2 _ ((hp _).mp hpk)
      rw [add_sub_cancel_left] at hle
      exact absurd hle (Nat.not_le.mpr hk)
  rw [roundRobin, List.find?_map, hfind, Option.map_some, hc]

theorem find_roundRobin_none {pointer : ChanId} {p : ChanId → Bool} (h : ∀ d, ¬ p d = true) : (roundRobin pointer).find? p = none :=
  List.find?_eq_none.mpr fun d _ => h d

/-- The first element for which an option is there is the one whose option is found. -/
theorem findSome_of_find {α β : Type} {f : α → Option β} {l : List α} {a : α} (h : l.find? (fun x => (f x).isSome) = some a) :
    l.findSome? f = f a := by
  induction l with
  | nil => cases h
  | cons x xs ih =>
    rw [List.find?_cons] at h
    rw [List.findSome?_cons]
    cases hx : f x with
    | none => exact ih (by simpa [hx] using h)
    | some b =>
      simp only [hx, Option.isSome_some] at h
      cases h
      exact hx.symm

/-! ## The arbiter's choice (R126, R127, R133) -/

section
variable {s : State} {tag : TagId}

theorem State.dataEligible_iff (s : State) (pr : Priority) (c : ChanId) : s.dataEligible pr c = true ↔
    s.port.waitData pr c = true ∧ s.port.data c < 2 ∧ (s.chan c).wantsData (s.port.data c) = true := by
  rw [State.dataEligible, Bool.and_eq_true, Bool.and_eq_true, decide_eq_true_eq, and_assoc]
  exact Iff.rfl

theorem State.descEligible_iff (s : State) (c : ChanId) : s.descEligible c = true ↔
    s.port.waitDesc c = true ∧ s.port.desc c < 1 ∧ (s.chan c).wantsDesc = true := by
  rw [State.descEligible, Bool.and_eq_true, Bool.and_eq_true, decide_eq_true_eq, and_assoc]
  exact Iff.rfl

theorem State.exec_grant_full (h : ∀ tag, s.port.entry tag ≠ none) : exec .grant s = .next s := by
  have hfree : s.port.freeEntry = none := by
    simpa [Port.freeEntry, List.find?_eq_none, ← Option.ne_none_iff_isSome] using h
  show Host.Outcome.next _ = _
  rw [hfree]

theorem State.exec_grant_nothing (h : s.choose = none) : exec .grant s = .next s := by
  show Host.Outcome.next _ = _
  rw [h]
  cases s.port.freeEntry <;> rfl

theorem State.exec_grant (hf : s.port.FirstFree tag) {g : Chosen} (h : s.choose = some g) :
    exec .grant s = .next (s.grantChosen tag g) := by
  show Host.Outcome.next _ = _
  rw [(Port.freeEntry_iff _ _).mpr hf, h]

theorem State.choose_of_running (h : s.device.state = .running) : s.choose = s.chooseRunning := by
  simp only [State.choose, h]

theorem State.choose_of_loading (h : s.device.state = .loading) :
    s.choose = if Class4.configRead ∈ s.port.wait4 then some (.class4 .configRead) else none := by
  simp only [State.choose, h]

theorem State.chooseRunning_cpl (h : s.port.wait0 = true ∧ s.writer.wantsWrite = true) : s.chooseRunning = some .cpl := by
  simp [State.chooseRunning, h.1, h.2]

/-- Without a completion write to grant, the data classes, the descriptor reads and class 4 follow in order (R126). -/
theorem State.chooseRunning_no_cpl (h : ¬ (s.port.wait0 = true ∧ s.writer.wantsWrite = true)) :
    s.chooseRunning = ((((s.nextData .urgent).map (Chosen.data .urgent)).or ((s.nextData .normal).map (Chosen.data .normal))).or
      (s.nextDesc.map Chosen.desc)).or (s.port.wait4.head?.map Chosen.class4) := by
  have hc : (s.port.wait0 && s.writer.wantsWrite) = false := by
    rw [← Bool.not_eq_true, Bool.and_eq_true]
    exact h
  simp only [State.chooseRunning, hc]
  cases s.nextData .urgent with
  | some c => rfl
  | none =>
    cases s.nextData .normal with
    | some c => rfl
    | none => cases s.nextDesc <;> rfl

end

/-! ## The grants (R83, R105, R128, R148, R161) -/

theorem Port.enter_plain (p : Port) (tag : TagId) {t : Transaction} (h : t.channel = none) :
    p.enter tag t = { p with table := p.table.set tag.val (some t) } := by
  simp only [Port.enter, h]
  rfl

theorem State.grantCpl_eq {s : State} {q : Queue} {x : Completion} {rest : List Completion} (tag : TagId)
    (hq : s.writer.queue = some q) (hl : s.writer.list = x :: rest) :
    s.grantCpl tag = { s with
      port := { s.port with table := s.port.table.set tag.val (some (s.writer.transaction q x)), wait0 := false }
      writer := { s.writer with outstanding := true } } := by
  simp only [State.grantCpl, hq, hl, List.head?_cons, Port.enter_plain s.port tag (t := s.writer.transaction q x) rfl]
  rfl

theorem State.grantClass4_eq {s : State} {r : Class4} {t : Transaction} (tag : TagId) (h : s.class4Transaction r = some t)
    (ht : t.channel = none) : s.grantClass4 tag r = { s with
      port := { s.port with table := s.port.table.set tag.val (some t), wait4 := s.port.wait4.erase r }
      transfer := s.transfer.map fun x => x.issue r } := by
  simp only [State.grantClass4, h, Port.enter_plain s.port tag ht]
  rfl

theorem ListTransfer.transaction_eq {x : ListTransfer} {k offset length : Nat} (h : x.pieces[k]? = some (offset, length)) :
    x.transaction k =
      { kind := if x.dir = .readList then .listRead else .listWrite, cls := 4, channel := none,
        address := x.base + BitVec.ofNat 64 offset, length := length,
        bytes := if x.dir = .readList then [] else (x.copy.drop offset).take length, ref := .piece k } := by
  have hpiece : x.pieces.getD k (0, 0) = (offset, length) := by rw [List.getD_eq_getElem?_getD, h]; rfl
  simp only [ListTransfer.transaction, hpiece]
  cases x.dir <;> rfl

/-! ## The bytes of a completion record (R105, R172) -/

theorem bytes16_joined (x : U16) : x.extractLsb' 8 8 ++ x.extractLsb' 0 8 = x := by
  apply BitVec.eq_of_toNat_eq
  have h := x.isLt
  rw [toNat_append_eq_add, BitVec.extractLsb'_toNat, BitVec.extractLsb'_toNat, Nat.shiftRight_eq_div_pow, Nat.shiftRight_zero]
  omega

theorem halves32_joined (x : U32) : x.extractLsb' 16 16 ++ x.extractLsb' 0 16 = x := by
  apply BitVec.eq_of_toNat_eq
  have h := x.isLt
  rw [toNat_append_eq_add, BitVec.extractLsb'_toNat, BitVec.extractLsb'_toNat, Nat.shiftRight_eq_div_pow, Nat.shiftRight_zero]
  omega

theorem bytes32_joined (x : U32) :
    ((x.extractLsb' 16 16).extractLsb' 8 8 ++ (x.extractLsb' 16 16).extractLsb' 0 8)
      ++ ((x.extractLsb' 0 16).extractLsb' 8 8 ++ (x.extractLsb' 0 16).extractLsb' 0 8) = x := by
  rw [bytes16_joined, bytes16_joined, halves32_joined]

theorem nibbles_low (a b : BitVec 4) : (a ++ b : Byte).extractLsb' 0 4 = b := by
  apply BitVec.eq_of_toNat_eq
  have := b.isLt
  rw [BitVec.extractLsb'_toNat, toNat_append_eq_add, Nat.shiftRight_zero]
  omega

theorem nibbles_high (a b : BitVec 4) : (a ++ b : Byte).extractLsb' 4 4 = a := by
  apply BitVec.eq_of_toNat_eq
  have := a.isLt
  have := b.isLt
  rw [BitVec.extractLsb'_toNat, toNat_append_eq_add, Nat.shiftRight_eq_div_pow]
  omega

theorem flagsByte_eq : ∀ phase overrun underrun gap wrapped absent : Bool,
    (0#2 ++ BitVec.ofBool absent ++ BitVec.ofBool wrapped ++ BitVec.ofBool gap ++ BitVec.ofBool underrun
        ++ BitVec.ofBool overrun ++ BitVec.ofBool phase : Byte)
      = BitVec.ofNat 8 (phase.toNat + 2 * overrun.toNat + 4 * underrun.toNat + 8 * gap.toNat + 16 * wrapped.toNat
        + 32 * absent.toNat) := by
  decide

end Sys2Proof.Machine

namespace Sys2Proof.Proofs
open Sys2Proof.Machine

/-- Settles O39: the two bits of the channel, each by the conditions of its request. -/
theorem requestsWaitWhileWanted : Obligations.RequestsWaitWhileWanted := by
  unfold Obligations.RequestsWaitWhileWanted
  intro s c ch t pr whole begins data desc
  have hdata : ch.wantsData (s.port.data c) = true ↔ data := ch.wantsData_iff _
  have hdesc : ch.wantsDesc = true ↔ desc := ch.wantsDesc_iff
  refine ⟨s.present_waits c, fun k hk => ⟨fun p => ?_, ?_⟩, fun p hp => ?_, fun hr => ⟨?_, ?_⟩, fun hr => ⟨?_, ?_⟩⟩
  · rw [State.present_port, Port.waitData_setWaitDesc, Port.waitData_setWaitData_chan _ _ _ _ hk]
  · rw [State.present_port, Port.waitDesc_setWaitDesc, if_neg hk, Port.waitDesc_setWaitData]
  · rw [State.present_port, Port.waitData_setWaitDesc, Port.waitData_setWaitData_class _ _ _ _ hp]
  · rw [State.present_waitData, (State.running_iff s).mpr hr, Bool.true_or, Bool.and_true, hdata]
  · rw [State.present_waitDesc, (State.running_iff s).mpr hr, Bool.true_or, Bool.and_true, hdesc]
  · have hn : s.running = false := by rw [← Bool.not_eq_true, State.running_iff]; exact hr
    rw [State.present_waitData, hn, Bool.false_or, Bool.and_eq_true, hdata]
  · have hn : s.running = false := by rw [← Bool.not_eq_true, State.running_iff]; exact hr
    rw [State.present_waitDesc, hn, Bool.false_or, Bool.and_eq_true, hdesc]

/-- Settles O40: class by class, and in round robin within a class. -/
theorem grantOrder : Obligations.GrantOrder := by
  unfold Obligations.GrantOrder
  intro s
  refine ⟨State.exec_grant_full, fun hst => ?_, fun tag hf => ?_⟩
  · refine State.exec_grant_nothing ?_
    rcases hst with h | h | h <;> simp only [State.choose, h]
  intro granted
  refine ⟨fun hd hm => State.exec_grant hf ?_, fun hd hm => State.exec_grant_nothing ?_, fun hd => ?_⟩
  · rw [State.choose_of_loading hd, if_pos hm]
  · rw [State.choose_of_loading hd, if_neg hm]
  intro cpl data desc
  have hdata (pr : Priority) (c : ChanId) : s.dataEligible pr c = true ↔ data pr c := s.dataEligible_iff pr c
  have hdesc (c : ChanId) : s.descEligible c = true ↔ desc c := s.descEligible_iff c
  have hgrant {g : Chosen} (h : s.chooseRunning = some g) : granted g :=
    State.exec_grant hf ((State.choose_of_running hd).trans h)
  refine ⟨fun hc => hgrant (State.chooseRunning_cpl hc), fun c hc hfirst => hgrant ?_, fun hc hurgent => ?_⟩
  · have hnext : s.nextData .urgent = some c := find_roundRobin (hdata .urgent) hfirst
    rw [State.chooseRunning_no_cpl hc, hnext]
    rfl
  have nourgent : s.nextData .urgent = none := find_roundRobin_none fun d h => hurgent d ((hdata _ d).mp h)
  refine ⟨fun c hfirst => hgrant ?_, fun hnormal => ?_⟩
  · have hnext : s.nextData .normal = some c := find_roundRobin (hdata .normal) hfirst
    rw [State.chooseRunning_no_cpl hc, nourgent, hnext]
    rfl
  have nonormal : s.nextData .normal = none := find_roundRobin_none fun d h => hnormal d ((hdata _ d).mp h)
  refine ⟨fun c hfirst => hgrant ?_, fun hnodesc => ?_⟩
  · have hnext : s.nextDesc = some c := find_roundRobin hdesc hfirst
    rw [State.chooseRunning_no_cpl hc, nourgent, nonormal, hnext]
    rfl
  have nodesc : s.nextDesc = none := find_roundRobin_none fun d h => hnodesc d ((hdesc d).mp h)
  refine ⟨fun r rest hw => hgrant ?_, fun hw => State.exec_grant_nothing ?_⟩
  · rw [State.chooseRunning_no_cpl hc, nourgent, nonormal, nodesc, hw]
    rfl
  · rw [State.choose_of_running hd, State.chooseRunning_no_cpl hc, nourgent, nonormal, nodesc, hw]
    rfl

/-- Settles O41: the write is chosen first, and its bytes are read back field by field. -/
theorem completionWriteGrantedWhole : Obligations.CompletionWriteGrantedWhole := by
  unfold Obligations.CompletionWriteGrantedWhole
  refine ⟨fun s q x rest tag hd hf hw hq hl hout hroom => ?_, fun x phase => ?_⟩
  · have hroom : decide (dist32 s.writer.hostHead s.writer.writeIndex < q.size) = true := decide_eq_true hroom
    have hwants : s.writer.wantsWrite = true := by
      simp only [Writer.wantsWrite, hq, hl, hout, hroom]
      rfl
    have hchoose : s.choose = some .cpl := (State.choose_of_running hd).trans (State.chooseRunning_cpl ⟨hw, hwants⟩)
    rw [State.exec_grant hf hchoose]
    exact congrArg Host.Outcome.next (State.grantCpl_eq tag hq hl)
  · simp only [Completion.bytes, bytes32, bytes16, List.cons_append, List.nil_append]
    refine ⟨rfl, (nibbles_low _ _).trans ?_, nibbles_high _ _, ?_, flagsByte_eq _ _ _ _ _ _, rfl, bytes32_joined _, bytes16_joined _,
      bytes16_joined _, bytes32_joined _, bytes32_joined _, bytes32_joined _, bytes32_joined _, bytes32_joined _⟩
    · cases x.kind <;> rfl
    · show x.status.code = _
      cases x.status <;> rfl

/-- Settles O43: each grant enters its transaction; the descriptor read goes through its channel. -/
theorem descriptorAndClass4Granted : Obligations.DescriptorAndClass4Granted := by
  unfold Obligations.DescriptorAndClass4Granted
  intro s tag
  have hkeep (hn : s.transfer = none) (r : Class4) : s.transfer.map (fun x => x.issue r) = s.transfer := by
    rw [hn]
    rfl
  refine ⟨fun c hs hc => ?_, fun q hq hn => ?_, fun a ha hn => ?_, fun x k offset length hx hp => ?_⟩
  · exact State.update_settled _ c _ (hs.of_same hc (by exact hc) rfl rfl rfl rfl rfl) hc
  · have h := State.grantClass4_eq (s := s) (r := .cmdRead) tag (t := s.cmd.transaction q) (by simp [State.class4Transaction, hq]) rfl
    rw [hkeep hn .cmdRead] at h
    exact h
  · have h := State.grantClass4_eq (s := s) (r := .configRead) tag (t := configTransaction a) (by simp [State.class4Transaction, ha]) rfl
    rw [hkeep hn .configRead] at h
    exact h
  · have h := State.grantClass4_eq (s := s) (r := .listPiece k) tag (t := x.transaction k) (by simp [State.class4Transaction, hx]) rfl
    rw [hx, ListTransfer.transaction_eq hp] at h
    exact h

end Sys2Proof.Proofs
end

section
/-! PROOFS. The Completion Writer's arbiter (R110 to R112), and what the notice of a broken frame makes of a channel (R69, R70). -/

set_option Elab.async false

namespace Sys2Proof.Machine

/-! ## Settling a channel of which nothing ends -/

/-- Where no request, record or pass ends, only RETIRING records with nothing to deliver leave, and the consumed index moves. -/
theorem Channel.settle_quiet (ch : Channel) (hrequests : ∀ q ∈ ch.requests, q.over = false)
    (hrecords : ∀ r ∈ ch.list, ch.finished r = false) (hpasses : ∀ r ∈ ch.list, ∀ p ∈ r.ended, r.passDone ch.cfg.dir p = false)
    (c : ChanId) :
    ch.settle c = ({ ch with list := ch.list.dropWhile BufferRecord.gone, consumed := consumedIndex ch.list ch.fetch }, []) := by
  have hkeep : ch.list.map (fun x => x.keepPasses ch.cfg.dir) = ch.list :=
    (List.map_congr_left fun x hx => x.keepPasses_id _ (hpasses x hx)).trans (List.map_id' _)
  have hfin : ch.list.filter ch.finished = [] := by
    rw [List.filter_eq_nil_iff]
    exact fun x hx => by simp [hrecords x hx]
  have hafter : (ch.list.map fun x => if ch.finished x then { x with state := RecState.retiring } else x) = ch.list :=
    (List.map_congr_left fun x hx => by simp [hrecords x hx]).trans (List.map_id' _)
  have hlist (before : BufferRecord → U16) (after : U16) : (ch.list.map fun x =>
      if ch.finished (x.keepPasses ch.cfg.dir)
        then (x.passesLeave c ch.cfg.dir (before x)).retire c ch.cfg.dir after else x.passesLeave c ch.cfg.dir (before x))
      = ch.list := by
    refine (List.map_congr_left fun x hx => ?_).trans (List.map_id' _)
    rw [x.keepPasses_id _ (hpasses x hx), hrecords x hx, x.passesLeave_id c _ _ (hpasses x hx)]
    rfl
  unfold Channel.settle
  simp only [Channel.reap_quiet ch hrequests, hkeep, hfin, hafter]
  rw [hlist]
  simp [Channel.leave, addCount]

/-- A channel goes back settled, and its windows are let go, where its close does not end. -/
theorem State.update_eq {s : State} {c : ChanId} {x ch : Channel} {ws vs : List WinId} (hr : s.device.state ≠ .resetting)
    (hs : x.settle c = (ch, vs)) (hd : ch.closeDone = false) :
    s.update c (x, ws) = ((s.setChan c ch).letGoAll (ws ++ vs)).present c := by
  have hchan : (((s.setChan c ch).letGoAll (ws ++ vs)).present c).chan c = ch := by
    show ((s.setChan c ch).letGoAll _).chan c = _
    rw [State.letGoAll_chan, State.setChan_chan_same]
  unfold State.update
  simp only [hs]
  rw [if_neg hr, State.endClose, if_neg (by simp [hchan, hd])]

theorem Channel.closeDone_of_not_closing {ch : Channel} (h : ch.state ≠ .closing) : ch.closeDone = false := by
  have : (ch.state == .closing) = false := by simpa using h
  simp [Channel.closeDone, this]

/-- A channel that settles without letting a window go goes back as it is then. -/
theorem State.update_put {s : State} {c : ChanId} {x ch : Channel} (hr : s.device.state ≠ .resetting)
    (hs : x.settle c = (ch, [])) (hd : ch.closeDone = false) : s.update c (x, []) = s.put c ch := by
  rw [State.update_eq hr hs hd, State.put, if_neg hr]
  rfl

/-! ## What a channel offers (R94, R109, R112) -/

section
variable {ch : Channel} {r : BufferRecord} {rest : List BufferRecord}

theorem Channel.offers_pass (hl : ch.list = r :: rest) {n : Nat} {x : Completion} {ps : List (Nat × Completion)}
    (hp : r.passCpls = (n, x) :: ps) (h : ∀ p ∈ r.ended, n < p.count) : ch.offers = some x := by
  have hall : (r.ended.all fun p => decide (n < p.count)) = true := by simpa using h
  simp [Channel.offers, hl, hp, hall]

theorem Channel.offers_pass_waits (hl : ch.list = r :: rest) {n : Nat} {x : Completion} {ps : List (Nat × Completion)}
    (hp : r.passCpls = (n, x) :: ps) (h : ¬ ∀ p ∈ r.ended, n < p.count) : ch.offers = none := by
  have hall : (r.ended.all fun p => decide (n < p.count)) = false := by
    rw [← Bool.not_eq_true]
    simpa using h
  simp [Channel.offers, hl, hp, hall]

theorem Channel.offers_record (hl : ch.list = r :: rest) (hp : r.passCpls = []) :
    ch.offers = if r.state = .retiring then r.completion else none := by
  simp [Channel.offers, hl, hp]

theorem Channel.delivered_pass (hl : ch.list = r :: rest) {p : Nat × Completion} {ps : List (Nat × Completion)}
    (hp : r.passCpls = p :: ps) : ch.delivered = { ch with list := { r with passCpls := ps } :: rest } := by
  simp only [Channel.delivered, hl, hp]

theorem Channel.delivered_record (hl : ch.list = r :: rest) (hp : r.passCpls = []) :
    ch.delivered = { ch with list := { r with completion := none } :: rest } := by
  simp only [Channel.delivered, hl, hp]

/-! ## The delivery to a settled channel (R92, R94) -/

/-- The CURRENT record of a list whose oldest record is changed but for its state and pass. -/
theorem Channel.current?_head_changed (r' : BufferRecord) (hl : ch.list = r :: rest) (hs : r'.state = r.state) :
    ({ ch with list := r' :: rest } : Channel).current? = if r.state = .current then some r' else ch.current? := by
  by_cases h : r.state = .current
  · simp [Channel.current?, hs, h]
  · simp [Channel.current?, hl, hs, h]

theorem Channel.passEnd_head_changed {r' : BufferRecord} (hl : ch.list = r :: rest) (hs : r'.state = r.state) (hp : r'.pass = r.pass)
    (hf : r'.frames = r.frames) (hb : ∀ y, ch.current? = some y → y.pass.issued < y.frames) :
    ({ ch with list := r' :: rest } : Channel).passEnd = { ch with list := r' :: rest } := by
  refine Channel.passEnd_before fun y hy => ?_
  rw [Channel.current?_head_changed r' hl hs] at hy
  split at hy
  · next h =>
    cases hy
    rw [hp, hf]
    exact hb r (by simp [Channel.current?, hl, h])
  · exact hb y hy

/-- The consumed index looks at states and ring indices alone. -/
theorem consumedIndex_head_changed (r' : BufferRecord) (rest : List BufferRecord) (fetch : U16) (hs : r'.state = r.state)
    (hr : r'.ring = r.ring) : consumedIndex (r' :: rest) fetch = consumedIndex (r :: rest) fetch := by
  unfold consumedIndex
  by_cases h : r.state = .retiring
  · cases rest with
    | nil => simp [hs, h, hr]
    | cons x xs => simp [hs, h]
  · simp [hs, h, hr]

/-- With the oldest record changed but for what settling looks at, nothing waits to be settled. -/
theorem Channel.Settled.head_changed {r' : BufferRecord} (h : ch.Settled) (hc : ch.state ≠ .closing) (hl : ch.list = r :: rest)
    (hsame : r' = { r with passCpls := r'.passCpls, completion := r'.completion }) (hgone : r'.gone = false) :
    ({ ch with list := r' :: rest } : Channel).Settled where
  requests := h.requests
  records x hx := by
    rw [Channel.finished_congr (a := ch) (b := { ch with list := r' :: rest }) hc hc rfl rfl]
    rcases List.mem_cons.mp hx with rfl | hx
    · have hr := h.records r (by simp [hl])
      rw [hsame]
      exact hr
    · exact h.records x (by simp [hl, hx])
  passes x hx p hp := by
    rcases List.mem_cons.mp hx with rfl | hx
    · rw [hsame] at hp ⊢
      exact h.passes r (by simp [hl]) p hp
    · exact h.passes x (by simp [hl, hx]) p hp
  oldest x hx := by
    cases hx
    exact hgone
  consumed := by
    have hstate : r'.state = r.state := by rw [hsame]
    have hring : r'.ring = r.ring := by rw [hsame]
    rw [consumedIndex_head_changed r' rest ch.fetch hstate hring, ← hl]
    exact h.consumed

/-- The delivery of a RETIRING record's completion: it leaves with those behind it that have nothing to deliver. -/
theorem Channel.settle_delivered (h : ch.Settled) (hc : ch.state ≠ .closing) (hl : ch.list = r :: rest)
    (hr : r.state = .retiring) (hp : r.passCpls = []) (c : ChanId) :
    ({ ch with list := { r with completion := none } :: rest } : Channel).settle c
      = ({ ch with list := rest.dropWhile BufferRecord.gone }, []) := by
  have hgone : ({ r with completion := none } : BufferRecord).gone = true := by simp [BufferRecord.gone, hr, hp]
  have hconsumed : consumedIndex ({ r with completion := none } :: rest) ch.fetch = ch.consumed := by
    rw [consumedIndex_head_changed (r := r) { r with completion := none } rest ch.fetch rfl rfl, ← hl]
    exact h.consumed.symm
  rw [Channel.settle_quiet]
  · simp only [hconsumed, List.dropWhile_cons_of_pos hgone]
  · exact h.requests
  · intro x hx
    rw [Channel.finished_congr (a := ch) (b := { ch with list := { r with completion := none } :: rest }) hc hc rfl rfl]
    rcases List.mem_cons.mp hx with rfl | hx
    · simp [Channel.finished, hr]
    · exact h.records x (by simp [hl, hx])
  · intro x hx p hp
    rcases List.mem_cons.mp hx with rfl | hx
    · exact h.passes r (by simp [hl]) p hp
    · exact h.passes x (by simp [hl, hx]) p hp

end

/-! ## The arbiter (R110, R111) -/

section
variable {s : State}

/-- An admitted completion joins the pending list, and its write is presented (R109, R111). -/
theorem State.enterList_eq (u : State) (x : Completion) (h : u.device.state = .running) :
    u.enterList x = { u with
      writer := { u.writer with list := u.writer.list ++ [x] }
      port := { u.port with wait0 := u.writer.queue.any fun q =>
        !u.writer.outstanding && decide ((u.writer.writeIndex - u.writer.hostHead).toNat < q.size) } } := by
  unfold State.enterList
  rw [State.presentCpl_running (by exact h)]
  simp only [State.setPort, State.setWriter]
  rw [Writer.wantsWrite_append u.writer x u.writer.reservations]

theorem State.place_iff (s : State) : (s.running = true ∧ 0 < s.writer.free)
    ↔ s.device.state = .running ∧ s.writer.list.length + s.writer.reservations < 32 := by
  rw [State.running_iff]
  refine and_congr_right fun _ => ?_
  show 0 < 32 - _ ↔ _
  omega

theorem State.exec_admission_no_place (h : ¬ (s.device.state = .running ∧ s.writer.list.length + s.writer.reservations < 32)) :
    exec .admission s = .next s := congrArg Host.Outcome.next (if_neg fun k => h (s.place_iff.mp k))

theorem State.exec_admission (h : s.device.state = .running ∧ s.writer.list.length + s.writer.reservations < 32)
    {x : Candidate} (hx : s.candidate = some x) : exec .admission s = .next (s.admitOne x) := by
  refine congrArg Host.Outcome.next ((if_pos (s.place_iff.mpr h)).trans ?_)
  rw [hx]

theorem State.exec_admission_none (hx : s.candidate = none) : exec .admission s = .next s := by
  refine congrArg Host.Outcome.next ?_
  rw [hx]
  exact ite_self s

/-- The lowest link with an event record comes first (R111). -/
theorem State.candidate_link {l : LinkId} {e : LinkEvent} (he : (s.link l).event = some e)
    (hfirst : ∀ k, k < l → (s.link k).event = none) : s.candidate = some (.linkEvent l e) := by
  have hfind : (List.finRange 8).find? (fun k => ((s.link k).event.map (Candidate.linkEvent k)).isSome) = some l := by
    rw [find_finRange]
    exact ⟨by simp [he], fun k hk => by simp [hfirst k hk]⟩
  have hcand : s.linkCandidate = some (.linkEvent l e) := by
    rw [State.linkCandidate, findSome_of_find hfind, he]
    rfl
  simp only [State.candidate, hcand]

theorem State.linkCandidate_none (h : ∀ l, (s.link l).event = none) : s.linkCandidate = none := by
  rw [State.linkCandidate, List.findSome?_eq_none_iff]
  exact fun l _ => by simp [h l]

theorem State.candidate_device (hl : ∀ l, (s.link l).event = none) {e : DeviceEvent} (he : s.writer.devEvent = some e) :
    s.candidate = some (.deviceEvent e) := by simp only [State.candidate, State.linkCandidate_none hl, he]

theorem State.candidate_reservation (hl : ∀ l, (s.link l).event = none) (hd : s.writer.devEvent = none)
    (h : s.cmd.state = .waitSpace ∧ s.writer.reservations < 24) : s.candidate = some .reservation := by
  have hc : s.reservationCandidate = some .reservation := if_pos h
  simp only [State.candidate, State.linkCandidate_none hl, hd, hc]

theorem State.candidate_channel (hl : ∀ l, (s.link l).event = none) (hd : s.writer.devEvent = none)
    (h : ¬ (s.cmd.state = .waitSpace ∧ s.writer.reservations < 24)) : s.candidate = s.channelCandidate := by
  have hc : s.reservationCandidate = none := if_neg h
  simp only [State.candidate, State.linkCandidate_none hl, hd, hc]

theorem State.channelCandidate_none (h : ∀ c, (s.chan c).offers = none) : s.channelCandidate = none := by
  rw [State.channelCandidate, List.findSome?_eq_none_iff]
  exact fun c _ => by simp [h c]

/-- The first channel after the pointer that offers a completion (R112). -/
theorem State.channelCandidate_some {c : ChanId} {x : Completion}
    (h : FirstAfter s.writer.pointer (fun c => (s.chan c).offers.isSome) c) (hx : (s.chan c).offers = some x) :
    s.channelCandidate = some (.channel c x) := by
  have hfind : (roundRobin s.writer.pointer).find? (fun c => ((s.chan c).offers.map (Candidate.channel c)).isSome) = some c :=
    find_roundRobin (P := fun c => (s.chan c).offers.isSome) (fun d => by simp) h
  rw [State.channelCandidate, findSome_of_find hfind, hx]
  rfl

end

/-! ## What the event completions carry (R17, R114, R115) -/

theorem LinkEvent.set_eq (e : LinkEvent) : e.set = BitVec.ofNat 32 (e.locked.toNat + 2 * e.lost.toNat + 4 * e.slip.toNat) := by
  have bits : ∀ a b c : Bool, (0#29 ++ BitVec.ofBool c ++ BitVec.ofBool b ++ BitVec.ofBool a : U32)
      = BitVec.ofNat 32 (a.toNat + 2 * b.toNat + 4 * c.toNat) := by decide
  exact bits e.locked e.lost e.slip

theorem DeviceEvent.kinds_eq (e : DeviceEvent) : e.kinds = BitVec.ofNat 32 ((match e.first with
    | .post => 1
    | .tail => 2
    | .head => 3) + 256 * e.seenPost.toNat + 512 * e.seenTail.toNat + 1024 * e.seenHead.toNat) := by
  have bits (k : PostKind) : ∀ a b c : Bool, (0#21 ++ BitVec.ofBool c ++ BitVec.ofBool b ++ BitVec.ofBool a ++ k.code : U32)
      = BitVec.ofNat 32 ((match k with
        | .post => 1
        | .tail => 2
        | .head => 3) + 256 * a.toNat + 512 * b.toNat + 1024 * c.toNat) := by
    cases k <;> decide
  exact bits e.first e.seenPost e.seenTail e.seenHead

end Sys2Proof.Machine

namespace Sys2Proof.Proofs
open Sys2Proof.Machine

/-- Settles O53: the candidates in order, what a channel offers, and the event completions. -/
theorem admissionOrderAndOffers : Obligations.AdmissionOrderAndOffers := by
  unfold Obligations.AdmissionOrderAndOffers
  refine ⟨fun s => ?_, fun ch r rest hl => ⟨fun n x ps hp => ⟨?_, ?_, ?_⟩, fun hp hr => ⟨?_, ?_⟩, fun hp hr => ?_⟩, fun l e => ?_, fun e => ?_⟩
  · intro place noLink wants entered
    have hentered (u : State) (x : Completion) (h : u.device.state = .running) : u.enterList x = entered u x := u.enterList_eq x h
    refine ⟨State.exec_admission_no_place, fun hplace => ⟨fun l e he hfirst => ?_, fun hno => ⟨fun e he => ?_, fun hdev =>
      ⟨fun hw => ?_, fun hw => ⟨fun hoff => ?_, fun c x hfirst hx => ?_⟩⟩⟩⟩⟩
    · rw [State.exec_admission hplace (State.candidate_link he hfirst)]
      exact congrArg Host.Outcome.next (hentered _ _ hplace.1)
    · rw [State.exec_admission hplace (State.candidate_device hno he)]
      exact congrArg Host.Outcome.next (hentered _ _ hplace.1)
    · rw [State.exec_admission hplace (State.candidate_reservation hno hdev hw)]
      rfl
    · exact State.exec_admission_none ((State.candidate_channel hno hdev hw).trans (State.channelCandidate_none hoff))
    · have hcand := (State.candidate_channel hno hdev hw).trans (State.channelCandidate_some hfirst hx)
      intro taken
      have htaken : exec .admission s = .next (taken.update c ((s.chan c).delivered.passEnd, [])) := by
        rw [State.exec_admission hplace hcand]
        show Host.Outcome.next (s.admitChannel c x) = _
        rw [State.admitChannel, hentered s x hplace.1]
        rfl
      have hrun : taken.device.state ≠ .resetting := by
        show s.device.state ≠ _
        rw [hplace.1]
        decide
      refine ⟨htaken, fun r rest hl hs hc hb => ⟨fun hp hr => ?_, fun y ps hp hleft => ?_⟩⟩
      · rw [htaken, Channel.delivered_record hl hp,
          Channel.passEnd_head_changed (r := r) (r' := { r with completion := none }) hl rfl rfl rfl hb]
        exact congrArg Host.Outcome.next (State.update_put hrun (Channel.settle_delivered hs hc hl hr hp c)
          (Channel.closeDone_of_not_closing hc))
      · have hgone : ({ r with passCpls := ps } : BufferRecord).gone = false := by
          rcases hleft with h | h | h
          · simp [BufferRecord.gone, h]
          · simp [BufferRecord.gone, Option.isNone_eq_false_iff.mpr h]
          · simp [BufferRecord.gone, h]
        rw [htaken, Channel.delivered_pass hl hp,
          Channel.passEnd_head_changed (r := r) (r' := { r with passCpls := ps }) hl rfl rfl rfl hb]
        exact congrArg Host.Outcome.next (State.update_settled taken c _ (hs.head_changed hc hl rfl hgone) hc)
  · exact fun h => Channel.offers_pass hl hp h
  · exact fun h => Channel.offers_pass_waits hl hp h
  · exact Channel.delivered_pass hl hp
  · rw [Channel.offers_record hl hp, if_pos hr]
  · exact Channel.delivered_record hl hp
  · rw [Channel.offers_record hl hp, if_neg hr]
  · simp only [linkEventDone, LinkEvent.set_eq]
    cases e.linkState <;> rfl
  · simp only [deviceEventDone, DeviceEvent.kinds_eq]
    cases e.reason <;> rfl

end Sys2Proof.Proofs
end

section
/-! PROOFS. The frame starts, the losses and slips of a link (R6 to R12, R15 to R17), the notices at a channel (R69, R70), and
the slots that no channel has (R13, R14, R22). -/

set_option Elab.async false

namespace Sys2Proof.Machine

/-! ## The events of a link (R17, R18) -/

theorem LinkEvent.note_locked (held : Option LinkEvent) (st : LinkState) (stamp : U32) :
    LinkEvent.note held .locked st stamp = (match held with
      | none => { locked := true, lost := false, slip := false, slips := 0, losses := 0, linkState := st, stamp := stamp }
      | some e => { e with locked := true, linkState := st, stamp := stamp }) := by
  cases held <;> simp [LinkEvent.note]

theorem LinkEvent.note_lost (held : Option LinkEvent) (st : LinkState) (stamp : U32) :
    LinkEvent.note held .lost st stamp = (match held with
      | none => { locked := false, lost := true, slip := false, slips := 0, losses := 1, linkState := st, stamp := stamp }
      | some e => { e with lost := true, losses := satCount e.losses, linkState := st, stamp := stamp }) := by
  cases held <;> simp [LinkEvent.note]

theorem LinkEvent.note_slip (held : Option LinkEvent) (st : LinkState) (stamp : U32) :
    LinkEvent.note held .slip st stamp = (match held with
      | none => { locked := false, lost := false, slip := true, slips := 1, losses := 0, linkState := st, stamp := stamp }
      | some e => { e with slip := true, slips := satCount e.slips, linkState := st, stamp := stamp }) := by
  cases held <;> simp [LinkEvent.note]

/-! ## Pending swaps (R15, R37) -/

section
variable {s : State} {l : LinkId} {cfg : LinkConfig}

theorem State.performPending_none {cause : SwapCause} (h : (s.map l).swapPending = false) : s.performPending l cause = s := by
  simp [State.performPending, h]

theorem State.performPending_pending {cause : SwapCause} {tag : U32} (hd : s.device.state = .running)
    (h : (s.map l).swapPending = true) (ht : (s.map l).swapTag = some tag) :
    s.performPending l cause = (s.exchanged l tag cause.code).grantWaiting := by
  rw [State.performPending_eq _ _ _ hd, if_pos h, ht, Option.getD_some]

/-- With an event record held no reservation is granted (R111). -/
theorem State.grantWaiting_event {e : LinkEvent} (h : (s.link l).event = some e) : s.grantWaiting = s :=
  s.grantWaiting_waits fun k => by
    have := k.2.links l
    rw [h] at this
    cases this

/-- A swap performed while its link holds an event record lets no command take a reservation. -/
theorem State.performPending_event {cause : SwapCause} {tag : U32} {e : LinkEvent} (hd : s.device.state = .running)
    (h : (s.map l).swapPending = true) (ht : (s.map l).swapTag = some tag) (he : (s.link l).event = some e) :
    s.performPending l cause = s.exchanged l tag cause.code := by
  rw [State.performPending_pending hd h ht]
  exact State.grantWaiting_event (l := l) he

/-! ## Where a link event falls -/

theorem Link.boundaryAs_of {x : Link} (hs : x.state = .locked) (hc : x.config = some cfg)
    (hb : x.bitPos = some (cfg.slots * cfg.width - 1)) (hn : x.completed = cfg.slots) : x.boundaryAs cfg.role = true :=
  (Link.boundaryAs_iff _ _).mpr ⟨⟨hs, by rw [hc]; rfl⟩, cfg, hc, hb, hn⟩

theorem Link.role_of {x : Link} (hc : x.config = some cfg) : x.role = some cfg.role := by rw [Link.role, hc]; rfl

/-! ## The frame starts (R7 to R10, R15) -/

/-- A frame that starts, with the sample of FSY (R12). -/
def Link.starting (x : Link) (missed : Nat) (low : Bool) : Link :=
  { x with state := .locked, frame := x.frame + 1, bitPos := some 0, launched := 0, completed := 0, missed := missed, fsyLow := low }

theorem State.exec_syncOnTime (h : (s.link l).boundaryAs .roleIn = true) :
    exec (.syncOnTime l) s = .next (s.nextFrame l ((s.link l).starting 0 false)) := congrArg Host.Outcome.next (if_pos h)

theorem State.exec_freewheel (h : (s.link l).boundaryAs .roleIn = true) (hm : (s.link l).missed = 0) :
    exec (.freewheel l) s = .next (s.nextFrame l ((s.link l).starting 1 (s.link l).fsyLow)) := by
  refine congrArg Host.Outcome.next ((if_pos ⟨h, by rw [hm]; decide⟩).trans ?_)
  rw [hm]
  rfl

theorem State.exec_frameBoundaryOut (h : (s.link l).boundaryAs .roleOut = true) :
    exec (.frameBoundaryOut l) s = .next (s.nextFrame l ((s.link l).starting 0 (s.link l).fsyLow)) :=
  congrArg Host.Outcome.next (if_pos h)

/-- The three rows that start a frame at its boundary. -/
theorem State.exec_frameStart {c : Instr} {missed : Nat} {low : Bool} (hs : (s.link l).state = .locked)
    (hc : (s.link l).config = some cfg) (hb : (s.link l).bitPos = some (cfg.slots * cfg.width - 1))
    (hn : (s.link l).completed = cfg.slots)
    (h : c = .syncOnTime l ∧ cfg.role = .roleIn ∧ missed = 0 ∧ low = false
      ∨ c = .freewheel l ∧ cfg.role = .roleIn ∧ (s.link l).missed = 0 ∧ missed = 1 ∧ low = (s.link l).fsyLow
      ∨ c = .frameBoundaryOut l ∧ cfg.role = .roleOut ∧ missed = 0 ∧ low = (s.link l).fsyLow) :
    exec c s = .next (s.nextFrame l ((s.link l).starting missed low)) := by
  have hat := Link.boundaryAs_of hs hc hb hn
  rcases h with ⟨rfl, hr, rfl, rfl⟩ | ⟨rfl, hr, hm, rfl, rfl⟩ | ⟨rfl, hr, rfl, rfl⟩
  · exact State.exec_syncOnTime (hr ▸ hat)
  · exact State.exec_freewheel (hr ▸ hat) hm
  · exact State.exec_frameBoundaryOut (hr ▸ hat)

end

/-! ## The notices at a channel (R69, R70) -/

section
variable {ch : Channel}

theorem Channel.fillGroup_some {gs : List Group} {g : Group} (hg : ch.groups = gs ++ [g]) (hc : g.cond = .filling) :
    ch.fillGroup = some g := by simp [Channel.fillGroup, hg, hc]

theorem Channel.fillGroup_eq_some {g : Group} (h : ch.fillGroup = some g) :
    ∃ gs, ch.groups = gs ++ [g] ∧ g.cond = .filling := by
  unfold Channel.fillGroup at h
  split at h
  · next x hx =>
    split at h
    · next hc =>
      cases h
      obtain ⟨gs, hgs⟩ := List.getLast?_eq_some_iff.mp hx
      exact ⟨gs, hgs, hc⟩
    · cases h
  · cases h

theorem Channel.fillGroup_none (h : ¬ ∃ gs g, ch.groups = gs ++ [g] ∧ g.cond = .filling) : ch.fillGroup = none := by
  cases hf : ch.fillGroup with
  | none => rfl
  | some g =>
    obtain ⟨gs, hg⟩ := Channel.fillGroup_eq_some hf
    exact absurd ⟨gs, g, hg⟩ h

theorem Channel.launchGroup_some {gs : List Group} {g : Group} (hg : ch.groups = g :: gs) (hc : g.cond = .launching) :
    ch.launchGroup = some g := by simp [Channel.launchGroup, hg, hc]

theorem Channel.launchGroup_eq_some {g : Group} (h : ch.launchGroup = some g) :
    ∃ gs, ch.groups = g :: gs ∧ g.cond = .launching := by
  unfold Channel.launchGroup at h
  split at h
  · next x hx =>
    split at h
    · next hc =>
      cases h
      obtain ⟨gs, hgs⟩ := List.head?_eq_some_iff.mp hx
      exact ⟨gs, hgs, hc⟩
    · cases h
  · cases h

theorem Channel.launchGroup_none (h : ¬ ∃ g gs, ch.groups = g :: gs ∧ g.cond = .launching) : ch.launchGroup = none := by
  cases hf : ch.launchGroup with
  | none => rfl
  | some g =>
    obtain ⟨gs, hg⟩ := Channel.launchGroup_eq_some hf
    exact absurd ⟨g, gs, hg⟩ h

/-- A receive channel as the cut-short notice leaves it, before GAP is set (R69). -/
def Channel.cutRx (ch : Channel) : Channel := { ch with idleFrame := none, groups := ch.groups.dropLast, lost := addCount ch.lost 1 }

theorem Channel.cutShort_rx_idle (hd : ch.cfg.dir = .rx) (hf : ch.fillGroup = none) : ch.cutShort = { ch with idleFrame := none } := by
  have hdir : ({ ch with idleFrame := none } : Channel).cfg.dir = .rx := hd
  have hfill : ({ ch with idleFrame := none } : Channel).fillGroup = none := hf
  simp only [Channel.cutShort, hdir, hfill]

theorem Channel.cutShort_rx_starved {g : Group} (hd : ch.cfg.dir = .rx) (hf : ch.fillGroup = some g) (hc : ch.current? = none) :
    ch.cutShort = { ch.cutRx with gapMark := true } := by
  have hdir : ({ ch with idleFrame := none } : Channel).cfg.dir = .rx := hd
  have hfill : ({ ch with idleFrame := none } : Channel).fillGroup = some g := hf
  have hcur : ch.cutRx.current? = none := hc
  unfold Channel.cutRx at hcur
  simp only [Channel.cutShort, hdir, hfill, hcur]
  rfl

theorem Channel.cutShort_rx_current {g : Group} {r : BufferRecord} (hd : ch.cfg.dir = .rx) (hf : ch.fillGroup = some g)
    (hc : ch.current? = some r) : ch.cutShort = ch.cutRx.mapCurrent Pass.gapLoss := by
  have hdir : ({ ch with idleFrame := none } : Channel).cfg.dir = .rx := hd
  have hfill : ({ ch with idleFrame := none } : Channel).fillGroup = some g := hf
  have hcur : ch.cutRx.current? = some r := hc
  unfold Channel.cutRx at hcur
  simp only [Channel.cutShort, hdir, hfill, hcur]
  rfl

/-- A transmit channel without its launch group, as the cut-short notice leaves it before the frame finishes (R69). -/
def Channel.cutTx (ch : Channel) : Channel :=
  { ch with idleFrame := none, groups := ch.groups.tail, discarded := addCount ch.discarded 1 }

theorem Channel.cutShort_tx_idle (hd : ch.cfg.dir = .tx) (hf : ch.launchGroup = none) : ch.cutShort = { ch with idleFrame := none } := by
  have hdir : ({ ch with idleFrame := none } : Channel).cfg.dir = .tx := hd
  have hlaunch : ({ ch with idleFrame := none } : Channel).launchGroup = none := hf
  simp only [Channel.cutShort, hdir, hlaunch]

theorem Channel.cutShort_tx_launching {g : Group} (hd : ch.cfg.dir = .tx) (hf : ch.launchGroup = some g) :
    ch.cutShort = ch.cutTx.mapSource g.source fun p => p.finishOne.setGap := by
  have hdir : ({ ch with idleFrame := none } : Channel).cfg.dir = .tx := hd
  have hlaunch : ({ ch with idleFrame := none } : Channel).launchGroup = some g := hf
  simp only [Channel.cutShort, hdir, hlaunch]
  rfl

theorem Channel.mapSource_config (ch : Channel) (src : Option Source) (f : Pass → Pass) : (ch.mapSource src f).config = ch.config :=
  (ch.mapSource_kept src f).config

theorem Channel.cutShort_config (ch : Channel) : ch.cutShort.config = ch.config := by
  cases hd : ch.cfg.dir with
  | rx =>
    cases hf : ch.fillGroup with
    | none => rw [Channel.cutShort_rx_idle hd hf]
    | some g =>
      cases hc : ch.current? with
      | none => rw [Channel.cutShort_rx_starved hd hf hc]; rfl
      | some r => rw [Channel.cutShort_rx_current hd hf hc]; rfl
  | tx =>
    cases hf : ch.launchGroup with
    | none => rw [Channel.cutShort_tx_idle hd hf]
    | some g => rw [Channel.cutShort_tx_launching hd hf, Channel.mapSource_config]; rfl

theorem Channel.cutShort_cfg (ch : Channel) : ch.cutShort.cfg = ch.cfg := by simp only [Channel.cfg, Channel.cutShort_config]

theorem Channel.linkDown_tx (hd : ch.cfg.dir = .tx) : ch.linkDown = ch.cutShort := by
  have hcfg : ch.cutShort.cfg.dir = .tx := by rw [Channel.cutShort_cfg, hd]
  simp only [Channel.linkDown, hcfg]

theorem Channel.linkDown_rx_current (hd : ch.cfg.dir = .rx) {r : BufferRecord} (hc : ch.cutShort.current? = some r) :
    ch.linkDown = ch.cutShort.mapCurrent Pass.setGap := by
  have hcfg : ch.cutShort.cfg.dir = .rx := by rw [Channel.cutShort_cfg, hd]
  simp only [Channel.linkDown, hcfg, hc]

theorem Channel.linkDown_rx_none (hd : ch.cfg.dir = .rx) (hc : ch.cutShort.current? = none) :
    ch.linkDown = if ch.cutShort.state = .starved then { ch.cutShort with gapMark := true } else ch.cutShort := by
  have hcfg : ch.cutShort.cfg.dir = .rx := by rw [Channel.cutShort_cfg, hd]
  simp only [Channel.linkDown, hcfg, hc]

/-- A change of the passes in progress leaves which record is CURRENT. -/
theorem Channel.mapCurrent_current? (ch : Channel) (f : Pass → Pass) :
    (ch.mapCurrent f).current? = ch.current?.map fun r => { r with pass := f r.pass } := by
  have h : ∀ l : List BufferRecord,
      (l.map fun r => if r.state = .current then { r with pass := f r.pass } else r).find? (fun r => r.state == .current)
        = (l.find? fun r => r.state == .current).map fun r => { r with pass := f r.pass } := by
    intro l
    induction l with
    | nil => rfl
    | cons r rs ih =>
      by_cases hr : r.state = .current
      · simp [hr]
      · have hb : (r.state == .current) = false := by simpa using hr
        simp only [List.map_cons, List.find?_cons, hr, if_false, hb]
        exact ih
  exact h ch.list

/-- Without a CURRENT record the cut-short notice leaves none, and the channel's state. -/
theorem Channel.cutShort_rx_no_current (hd : ch.cfg.dir = .rx) (hc : ch.current? = none) :
    ch.cutShort.current? = none ∧ ch.cutShort.state = ch.state := by
  cases hf : ch.fillGroup with
  | none =>
    rw [Channel.cutShort_rx_idle hd hf]
    exact ⟨hc, rfl⟩
  | some g =>
    rw [Channel.cutShort_rx_starved hd hf hc]
    exact ⟨hc, rfl⟩

/-- GAP set twice is GAP set once. -/
theorem Channel.mapCurrent_gap_twice (ch : Channel) : (ch.mapCurrent Pass.gapLoss).mapCurrent Pass.setGap = ch.mapCurrent Pass.gapLoss := by
  simp only [Channel.mapCurrent, Channel.mapRecords, List.map_map]
  congr 1
  refine List.map_congr_left fun r _ => ?_
  by_cases hr : r.state = .current <;> simp [hr, Pass.gapLoss, Pass.setGap]

/-- A change of one pass, where no record has ended passes. -/
theorem Channel.mapPass_no_ended (ch : Channel) (ring : U16) (n : Nat) (f : Pass → Pass) (h : ∀ r ∈ ch.list, r.ended = []) :
    ch.mapPass ring n f = { ch with
      list := ch.list.map fun r => if r.ring = ring ∧ r.pass.count = n then { r with pass := f r.pass } else r } := by
  simp only [Channel.mapPass, Channel.mapRecord, Channel.mapRecords]
  congr 1
  refine List.map_congr_left fun r hr => ?_
  by_cases h1 : r.ring = ring
  · by_cases h2 : r.pass.count = n
    · rw [if_pos h1, if_pos ⟨h1, h2⟩, BufferRecord.mapPass, if_pos h2]
    · rw [if_pos h1, if_neg fun k => h2 k.2, BufferRecord.mapPass, if_neg h2, h r hr, List.map_nil, ← h r hr]
  · rw [if_neg h1, if_neg fun k => h1 k.1]

end

/-! ## Slots that no channel has (R13, R14, R22) -/

section
variable {s : State} {l : LinkId} {slot : SlotId} {cfg : LinkConfig}

theorem State.assigned_some {h : Option Half} {d : Direction} {x : Half} (hx : h = some x) (ho : (s.chan x.chan).isOpen = true)
    (hd : (s.chan x.chan).cfg.dir = d) : s.assigned h d = some x := by
  simp [State.assigned, hx, ho, hd]

theorem State.assigned_none {h : Option Half} {d : Direction}
    (hn : ¬ ∃ x, h = some x ∧ (s.chan x.chan).isOpen = true ∧ (s.chan x.chan).cfg.dir = d) : s.assigned h d = none := by
  cases h with
  | none => rfl
  | some x => exact if_neg fun k => hn ⟨x, rfl, k⟩

theorem State.lockedSlot_some {due : Bool} (hs : (s.link l).state = .locked) (hc : (s.link l).config = some cfg)
    (hslot : slot.val < cfg.slots) (hdue : due = true) : s.lockedSlot l slot due = some cfg := by
  simp [State.lockedSlot, hs, hc, hslot, hdue]

theorem Link.mayLaunch_of {x : Link} {n : Nat} (hl : x.launched = n) (hc : n ≤ x.completed + 1) : x.mayLaunch n = true := by
  simp [Link.mayLaunch, hl, hc]

theorem Link.mayComplete_of {x : Link} {n : Nat} (hc : x.completed = n) (hl : n < x.launched) : x.mayComplete n = true := by
  simp [Link.mayComplete, hl, hc]

theorem State.exec_transmitSlotLaunch (hs : (s.link l).state = .locked) (hc : (s.link l).config = some cfg)
    (hslot : slot.val < cfg.slots) (hl : (s.link l).launched = slot.val) (hn : slot.val ≤ (s.link l).completed + 1) :
    exec (.transmitSlotLaunch l slot) s = .next (s.transmitSlot l slot cfg) := by
  show Host.Outcome.next _ = _
  rw [State.lockedSlot_some hs hc hslot (Link.mayLaunch_of hl hn)]

theorem State.exec_receiveSlotComplete (hs : (s.link l).state = .locked) (hc : (s.link l).config = some cfg)
    (hslot : slot.val < cfg.slots) (hn : (s.link l).completed = slot.val) (hl : slot.val < (s.link l).launched) (x : U16) :
    exec (.receiveSlotComplete l slot x) s = .next (s.receiveSlot l slot cfg x) := by
  show Host.Outcome.next _ = _
  rw [State.lockedSlot_some hs hc hslot (Link.mayComplete_of hn hl)]

theorem State.transmitSlot_idle (h : s.assigned (s.map l).active[slot.val].tx .tx = none) :
    s.transmitSlot l slot cfg = s.setLink l
      { s.link l with bitPos := some (slot.val * cfg.width), launched := slot.val + 1, txd := cfg.idleWord } := by
  simp only [State.transmitSlot, h]

theorem State.receiveSlot_idle (h : s.assigned (s.map l).active[slot.val].rx .rx = none) (x : U16) :
    s.receiveSlot l slot cfg x = s.setLink l ((s.link l).completeAt slot.val cfg.width) := by
  simp only [State.receiveSlot, h]
  rfl

end

end Sys2Proof.Machine

namespace Sys2Proof.Proofs
open Sys2Proof.Machine

/-- Settles O31: each start sets the link and performs what is pending. -/
theorem frameStartsAndPendingSwaps : Obligations.FrameStartsAndPendingSwaps := by
  unfold Obligations.FrameStartsAndPendingSwaps
  intro s l cfg hd hc
  refine ⟨fun hr hst => ?_, fun c missed low hst hb hn hrow => ⟨fun hp => ?_, fun tag hp ht => ⟨fun hg => ?_, fun hg => ?_⟩⟩⟩
  · have hrole : (s.link l).role = some .roleIn := (Link.role_of hc).trans (congrArg some hr)
    refine congrArg Host.Outcome.next ((if_pos ⟨hst, hrole⟩).trans ?_)
    simp only [Link.note, LinkEvent.note_locked]
    rfl
  all_goals rw [State.exec_frameStart hst hc hb hn hrow, State.nextFrame]
  · rw [State.performPending_none (by exact hp)]
    rfl
  · rw [State.performPending_pending (by exact hd) (by exact hp) (by exact ht)]
    exact congrArg Host.Outcome.next (State.grantWaiting_waits _ hg)
  · rw [State.performPending_pending (by exact hd) (by exact hp) (by exact ht)]
    exact congrArg Host.Outcome.next (State.grantWaiting_granted _ (by exact hd) hg.1 hg.2)

/-- Settles O32: the notice goes to the bank in use until then, and the event record keeps a waiting command waiting. -/
theorem lossAndSlipBreakFrames : Obligations.LossAndSlipBreakFrames := by
  unfold Obligations.LossAndSlipBreakFrames
  refine ⟨fun s l cfg hd hc hr hst hb hn hm => ?_, fun s l cfg hd hc hr hst hl hb => ?_⟩
  · have hat : (s.link l).boundaryAs .roleIn = true := hr ▸ Link.boundaryAs_of hst hc hb hn
    have hrow : exec (.linkLoss l) s
        = .next (((s.setLink l (s.link l).afterLoss).performPending l .loss).notify (s.map l).active Channel.linkDown) :=
      congrArg Host.Outcome.next (if_pos ⟨hat, by rw [hm]; rfl⟩)
    intro event lost
    have hlost : s.setLink l (s.link l).afterLoss = lost := by
      simp only [Link.afterLoss, Link.note, LinkEvent.note_lost]
      rfl
    rw [hrow, hlost]
    refine ⟨fun hp => ?_, fun tag hp ht => ?_⟩
    · rw [State.performPending_none (by exact hp)]
    · rw [State.performPending_event (s := lost) (e := event) hd hp ht (by rw [State.setLink_link_same])]
      rfl
  · have hlock : (s.link l).lockedAs .roleIn = true := (Link.lockedAs_iff _ _).mpr ⟨hst, by rw [hc, ← hr]; rfl⟩
    have hoff : (s.link l).offBoundary = true := by
      refine (Link.offBoundary_iff _).mpr ⟨hl, fun hlast => ?_⟩
      obtain ⟨cfg', hc', hb'⟩ := (Link.atLastBit_iff _).mp hlast
      cases hc.symm.trans hc'
      exact hb hb'
    have hrow : exec (.slip l) s = .next (((s.notify (s.map l).active Channel.cutShort).setLink l
        { (s.link l).pulseFrame.note .slip with txd := none }).performPending l .frameStart) :=
      congrArg Host.Outcome.next (if_pos ⟨hlock, hoff⟩)
    intro event cut started
    have honly := s.notify_only (s.map l).active Channel.cutShort
    have hstarted : (s.notify (s.map l).active Channel.cutShort).setLink l { (s.link l).pulseFrame.note .slip with txd := none }
        = started := by
      simp only [Link.note, Link.pulseFrame, Link.startFrame, LinkEvent.note_slip, started, hst]
      rfl
    have hmap : started.map l = s.map l := by
      show cut.maps[l] = s.maps[l]
      rw [honly.maps]
    have hrun : started.device.state = .running := by
      show cut.device.state = .running
      rw [honly.device, hd]
    rw [hrow, hstarted]
    refine ⟨fun hp => ?_, fun tag hp ht => ?_⟩
    · rw [State.performPending_none (by rw [hmap]; exact hp)]
    · rw [State.performPending_event (s := started) (e := event) hrun (by rw [hmap]; exact hp) (by rw [hmap]; exact ht)
        (by rw [State.setLink_link_same])]
      rfl

/-- Settles O34: the notice channel by channel, and the group in progress that it ends. -/
theorem noticesEndFrameGroups : Obligations.NoticesEndFrameGroups := by
  unfold Obligations.NoticesEndFrameGroups
  refine ⟨fun s b f => ⟨State.notify_only_open s, fun c hn hc hs hcl => State.notify_chan_settled hn hc hs hcl,
    fun hr => ⟨State.notify_resetting hr, fun c hn hc => State.notify_chan_resetting hr hn hc⟩⟩, fun ch => ?_⟩
  intro marked filling launching
  have hmarked (x : Channel) (hx : x.list = ch.list) : x.mapCurrent Pass.gapLoss = { x with list := marked true } := by
    simp only [Channel.mapCurrent, Channel.mapRecords, hx]
    rfl
  refine ⟨fun hd => ⟨fun hf => ?_, fun ⟨gs, g, hg, hcond⟩ hc => ?_, fun ⟨gs, g, hg, hcond⟩ r hc => ?_, fun hf r hc => ?_,
    fun ⟨gs, g, hg, hcond⟩ r hc => ?_, fun hc hst => ?_, fun hc hst => ?_⟩, fun hd => ⟨Channel.linkDown_tx hd, fun hl => ?_,
    fun g gs hg hcond => ⟨fun hsrc => ?_, fun src hsrc hended => ?_⟩⟩⟩
  · exact Channel.cutShort_rx_idle hd (Channel.fillGroup_none hf)
  · exact Channel.cutShort_rx_starved hd (Channel.fillGroup_some hg hcond) hc
  · rw [Channel.cutShort_rx_current hd (Channel.fillGroup_some hg hcond) hc, hmarked ch.cutRx rfl]
    rfl
  · have hcur : ({ ch with idleFrame := none } : Channel).current? = some r := hc
    have hcut := Channel.cutShort_rx_idle hd (Channel.fillGroup_none hf)
    rw [Channel.linkDown_rx_current (r := r) hd (by rw [hcut]; exact hcur), hcut]
    rfl
  · have hcur : (ch.cutRx.mapCurrent Pass.gapLoss).current? = some { r with pass := r.pass.gapLoss } := by
      rw [Channel.mapCurrent_current?]
      have : ch.cutRx.current? = some r := hc
      rw [this]
      rfl
    have hcut := Channel.cutShort_rx_current hd (Channel.fillGroup_some hg hcond) hc
    rw [Channel.linkDown_rx_current hd (by rw [hcut]; exact hcur), hcut]
    exact Channel.mapCurrent_gap_twice _
  · obtain ⟨hnone, hstate⟩ := Channel.cutShort_rx_no_current hd hc
    rw [Channel.linkDown_rx_none hd hnone, if_pos (hstate.trans hst)]
  · obtain ⟨hnone, hstate⟩ := Channel.cutShort_rx_no_current hd hc
    rw [Channel.linkDown_rx_none hd hnone, if_neg (by rw [hstate, hst]; decide)]
  · exact Channel.cutShort_tx_idle hd (Channel.launchGroup_none hl)
  · rw [Channel.cutShort_tx_launching hd (Channel.launchGroup_some hg hcond), hsrc]
    simp only [Channel.mapSource, Channel.cutTx, hg, List.tail_cons]
    rfl
  · rw [Channel.cutShort_tx_launching hd (Channel.launchGroup_some hg hcond), hsrc]
    have hpass : ch.cutTx.mapSource (some src) (fun p => p.finishOne.setGap)
        = ch.cutTx.mapPass src.ring src.pass fun p => p.finishOne.setGap := rfl
    rw [hpass, Channel.mapPass_no_ended ch.cutTx _ _ _ hended]
    simp only [Channel.cutTx, hg, List.tail_cons]
    rfl

/-- Settles O35: no channel takes the event, so the link alone changes. -/
theorem unassignedSlots : Obligations.UnassignedSlots := by
  unfold Obligations.UnassignedSlots
  intro s l slot cfg hs hc hslot assigned
  refine ⟨fun hl hn hnone => ?_, fun hn hl hnone x => ?_⟩
  · rw [State.exec_transmitSlotLaunch hs hc hslot hl hn, State.transmitSlot_idle (State.assigned_none hnone)]
    rfl
  · rw [State.exec_receiveSlotComplete hs hc hslot hn hl, State.receiveSlot_idle (State.assigned_none hnone)]
    rfl

end Sys2Proof.Proofs
end

section
/-! PROOFS. The lists of WRITE_SLOT_MAP and READ_SLOT_MAP and their pieces (R25, R29, R171), and the validation of a swap
(R32 to R34). -/

set_option Elab.async false

namespace Sys2Proof.Machine

/-! ## The pieces of a range (R25) -/

theorem cutPieces_length_le (fuel base offset left : Nat) : (cutPieces fuel base offset left).length ≤ fuel := by
  induction fuel generalizing offset left with
  | zero => rfl
  | succ fuel ih =>
    rw [cutPieces]
    split
    · exact Nat.zero_le _
    · exact Nat.succ_le_succ (ih _ _)

theorem cutPieces_none (fuel base offset : Nat) : cutPieces fuel base offset 0 = [] := by
  cases fuel <;> rfl

theorem cutPieces_sum (fuel base offset left : Nat) (h : left + (base + offset) % 64 ≤ 64 * fuel) :
    ((cutPieces fuel base offset left).map Prod.snd).sum = left := by
  induction fuel generalizing offset left with
  | zero =>
    have : left = 0 := by omega
    rw [this]
    rfl
  | succ fuel ih =>
    rw [cutPieces]
    split
    · next h0 => rw [h0]; rfl
    · by_cases hk : left ≤ 64 - (base + offset) % 64
      · simp [Nat.min_eq_left hk, cutPieces_none]
      · simp only [Nat.min_eq_right (show 64 - (base + offset) % 64 ≤ left by omega), List.map_cons, List.sum_cons]
        rw [ih _ _ (by omega)]
        omega

theorem cutPieces_at (fuel base offset left i : Nat) (h : i < (cutPieces fuel base offset left).length) :
    let ps := cutPieces fuel base offset left
    ps[i].1 = offset + ((ps.take i).map Prod.snd).sum ∧ 1 ≤ ps[i].2
      ∧ (base + ps[i].1) / 64 = (base + ps[i].1 + ps[i].2 - 1) / 64
      ∧ (i + 1 < ps.length → (base + ps[i].1 + ps[i].2) % 64 = 0) := by
  induction fuel generalizing offset left i with
  | zero => exact absurd h (Nat.not_lt_zero _)
  | succ fuel ih =>
    by_cases h0 : left = 0
    · subst h0
      exact absurd h (Nat.not_lt_zero _)
    · obtain ⟨k, hk⟩ : ∃ k, min left (64 - (base + offset) % 64) = k := ⟨_, rfl⟩
      have hcut : cutPieces (fuel + 1) base offset left = (offset, k) :: cutPieces fuel base (offset + k) (left - k) := by
        rw [cutPieces, if_neg h0, hk]
      simp only [hcut] at h ⊢
      cases i with
      | zero =>
        refine ⟨rfl, show 1 ≤ k by omega, show (base + offset) / 64 = (base + offset + k - 1) / 64 by omega, fun hmore => ?_⟩
        have hleft : left - k ≠ 0 := fun hz => by
          rw [hz, cutPieces_none] at hmore
          exact absurd hmore (Nat.lt_irrefl _)
        exact show (base + offset + k) % 64 = 0 by omega
      | succ i =>
        obtain ⟨hoff, hone, hblock, hend⟩ := ih (offset + k) (left - k) i (by simpa using h)
        simp only [List.getElem_cons_succ, List.take_succ_cons, List.map_cons, List.sum_cons, List.length_cons]
        exact ⟨by omega, hone, hblock, fun hmore => hend (by omega)⟩

/-! ## Words and entries of a list (R29, R171) -/

theorem halfBits_some (x : Half) : (halfBits (some x)).toNat = 512 + x.lane.val * 64 + x.chan.val := by
  have hlane := x.lane.isLt
  have hchan := x.chan.isLt
  simp only [halfBits, toNat_append_eq_add, BitVec.toNat_ofNat]
  omega

/-- The ten bits of a half, as they stand in a word, are read back as the half. -/
theorem halfOf_of_bits (w : U32) (at_ : Nat) (h : Option Half) (hw : w.toNat / 2 ^ at_ % 1024 = (halfBits h).toNat) :
    halfOf w at_ = h ∧ halfReservedZero w at_ = true := by
  have hbit : w.getLsbD (at_ + 9) = decide (w.toNat / 2 ^ at_ / 512 % 2 = 1) := by
    rw [BitVec.getLsbD, Nat.testBit_eq_decide_div_mod_eq, Nat.pow_add, Nat.div_div_eq_div_mul]
  cases h with
  | none =>
    have hzero : w.toNat / 2 ^ at_ % 1024 = 0 := hw
    have hlow : w.extractLsb' at_ 9 = 0 := by
      apply BitVec.eq_of_toNat_eq
      rw [BitVec.extractLsb'_toNat, Nat.shiftRight_eq_div_pow]
      exact show w.toNat / 2 ^ at_ % 512 = 0 by omega
    have hoff : w.getLsbD (at_ + 9) = false := hbit.trans (decide_eq_false (by omega))
    exact ⟨by rw [halfOf, hoff]; rfl, by rw [halfReservedZero, hlow]; simp⟩
  | some x =>
    have hlane := x.lane.isLt
    have hchan := x.chan.isLt
    rw [halfBits_some] at hw
    have hon : w.getLsbD (at_ + 9) = true := hbit.trans (decide_eq_true (by omega))
    have hc : (w.extractLsb' at_ 6).toFin = x.chan := by
      apply Fin.ext
      rw [BitVec.val_toFin, BitVec.extractLsb'_toNat, Nat.shiftRight_eq_div_pow]
      omega
    have hl : (w.extractLsb' (at_ + 6) 3).toFin = x.lane := by
      apply Fin.ext
      rw [BitVec.val_toFin, BitVec.extractLsb'_toNat, Nat.shiftRight_eq_div_pow, Nat.pow_add, ← Nat.div_div_eq_div_mul]
      omega
    exact ⟨by rw [halfOf, hon, if_pos rfl, hc, hl], by rw [halfReservedZero, hon]; rfl⟩

theorem listWord_toNat (slot : SlotId) (e : MapEntry) :
    (listWord slot e).toNat = (halfBits e.tx).toNat * 2 ^ 18 + (halfBits e.rx).toNat * 2 ^ 8 + slot.val := by
  have hslot := slot.isLt
  simp only [listWord, toNat_append_eq_add, BitVec.toNat_ofNat]
  omega

theorem listEntryOf_listWord (slot : SlotId) (e : MapEntry) : listEntryOf (listWord slot e) = some (slot, e) := by
  have hn := listWord_toNat slot e
  have hslot := slot.isLt
  have htx := (halfBits e.tx).isLt
  have hrx := (halfBits e.rx).isLt
  obtain ⟨hrxOf, hrxZero⟩ := halfOf_of_bits (listWord slot e) 8 e.rx (by omega)
  obtain ⟨htxOf, htxZero⟩ := halfOf_of_bits (listWord slot e) 18 e.tx (by omega)
  have hnum : ((listWord slot e).extractLsb' 0 8).toNat = slot.val := by
    rw [BitVec.extractLsb'_toNat, Nat.shiftRight_zero]
    omega
  have htop : (listWord slot e).extractLsb' 28 4 = 0 := by
    apply BitVec.eq_of_toNat_eq
    rw [BitVec.extractLsb'_toNat, Nat.shiftRight_eq_div_pow]
    exact show (listWord slot e).toNat / 2 ^ 28 % 16 = 0 by omega
  rw [listEntryOf, dif_pos (by omega), if_pos (by rw [htop, hrxZero, htxZero]; rfl), hrxOf, htxOf]
  exact congrArg (fun i => some (i, e)) (Fin.ext hnum)

/-! ## The copy of a bank (R29) -/

/-- Byte `j` of piece `i`, where every piece has the same length. -/
theorem getD_flatMap_blocks {α β : Type} {n : Nat} (f : α → List β) (hf : ∀ a, (f a).length = n) (d : β) :
    ∀ (l : List α) (i j : Nat) (hi : i < l.length), j < n → (l.flatMap f).getD (i * n + j) d = (f l[i]).getD j d
  | a :: l, 0, j, _, hj => by
    rw [List.flatMap_cons, Nat.zero_mul, Nat.zero_add, List.getD_append _ _ _ _ (by rw [hf]; exact hj)]
    rfl
  | a :: l, i + 1, j, hi, hj => by
    have hle : (f a).length ≤ (i + 1) * n + j := by
      rw [hf, Nat.succ_mul]
      omega
    have hsub : (i + 1) * n + j - n = i * n + j := by
      rw [Nat.succ_mul]
      omega
    rw [List.flatMap_cons, List.getD_append_right _ _ _ _ hle, hf, hsub,
      getD_flatMap_blocks f hf d l i j (Nat.lt_of_succ_lt_succ hi) hj]
    rfl

theorem Bank.bytes_length (b : Bank) : b.bytes.length = 512 := by
  have hword (i : SlotId) : (bytes32 (listWord i b[i.val])).length = 4 := rfl
  simp [Bank.bytes, List.length_flatMap, hword]

theorem Bank.byteAt_bytes (b : Bank) (i : SlotId) (j : Nat) (hj : j < 4) :
    byteAt b.bytes (i.val * 4 + j) = (bytes32 (listWord i b[i.val])).getD j 0 := by
  have h := getD_flatMap_blocks (fun i : SlotId => bytes32 (listWord i b[i.val])) (fun _ => rfl) (0 : Byte) (List.finRange 128)
    i.val j (by simp) hj
  rwa [List.getElem_finRange] at h

theorem Bank.u32At_bytes (b : Bank) (i : SlotId) : u32At b.bytes (i.val * 4) = listWord i b[i.val] := by
  have h0 := b.byteAt_bytes i 0 (by decide)
  have h1 := b.byteAt_bytes i 1 (by decide)
  have h2 := b.byteAt_bytes i 2 (by decide)
  have h3 := b.byteAt_bytes i 3 (by decide)
  rw [u32At, u16At, u16At]
  rw [Nat.add_zero] at h0
  rw [h0, h1, h2, show i.val * 4 + 2 + 1 = i.val * 4 + 3 from rfl, h3]
  exact bytes32_joined _

theorem Bank.wordsOf_bytes (b : Bank) : wordsOf b.bytes = (List.finRange 128).map fun i => listWord i b[i.val] := by
  rw [wordsOf, b.bytes_length, show List.range (512 / 4) = (List.finRange 128).map Fin.val by rw [List.map_coe_finRange_eq_range],
    List.map_map]
  exact List.map_congr_left fun i _ => b.u32At_bytes i

/-- Writing the entries of another bank at the slots of a list. -/
theorem Bank.apply_words (b : Bank) (l : List SlotId) (old : Bank) (j : SlotId) :
    (old.apply (l.map fun i => listWord i b[i.val]))[j.val] = if j ∈ l then b[j.val] else old[j.val] := by
  induction l generalizing old with
  | nil => rfl
  | cons i l ih =>
    have hstep : old.apply ((i :: l).map fun i => listWord i b[i.val])
        = Bank.apply (old.set i.val b[i.val]) (l.map fun i => listWord i b[i.val]) := by
      simp only [Bank.apply, List.map_cons, List.foldl_cons, listEntryOf_listWord]
    rw [hstep, ih]
    by_cases hj : j ∈ l
    · rw [if_pos hj, if_pos (List.mem_cons_of_mem _ hj)]
    · by_cases hij : j = i
      · subst hij
        rw [if_neg hj, if_pos List.mem_cons_self, Vector.getElem_set_self]
      · rw [if_neg hj, if_neg (by simp [hij, hj]), Vector.getElem_set_ne _ _ fun h => hij (Fin.ext h.symm)]

/-! ## The lanes of a channel (R33) -/

/-- The lane sequence fails at the slot, where the first half of the list is to name lane `k`. -/
def LanesFailFrom (k : Nat) (halves : List (SlotId × Fin 8)) (n : Nat) (slot : SlotId) : Prop :=
  ∃ i lane, halves[i]? = some (slot, lane) ∧ (∀ j x, j < i → halves[j]? = some x → x.2.val = k + j ∧ k + j < n)
    ∧ (lane.val ≠ k + i ∨ n ≤ k + i ∨ (i + 1 = halves.length ∧ k + i + 1 < n))

theorem lanesFailFrom_zero (halves : List (SlotId × Fin 8)) (n : Nat) (slot : SlotId) :
    LanesFailFrom 0 halves n slot ↔ LanesFailAt halves n slot := by
  simp only [LanesFailFrom, LanesFailAt, Nat.zero_add]

/-- A half that is in order, and not the last of too few, leaves the question to the halves behind it. -/
theorem lanesFailFrom_cons {k n : Nat} {i slot : SlotId} {lane : Fin 8} {rest : List (SlotId × Fin 8)} (hlane : lane.val = k)
    (hk : k < n) (hrest : rest = [] → n ≤ k + 1) :
    LanesFailFrom k ((i, lane) :: rest) n slot ↔ LanesFailFrom (k + 1) rest n slot := by
  constructor
  · rintro ⟨m, x, hx, hbefore, hfail⟩
    cases m with
    | zero =>
      cases Option.some.inj hx
      rcases hfail with h | h | ⟨h, h'⟩
      · exact absurd hlane (by simpa using h)
      · omega
      · have := hrest (List.eq_nil_of_length_eq_zero (by simpa using h.symm))
        omega
    | succ m =>
      refine ⟨m, x, hx, fun j y hj hy => ?_, ?_⟩
      · have := hbefore (j + 1) y (by omega) hy
        omega
      · simp only [List.length_cons] at hfail
        omega
  · rintro ⟨m, x, hx, hbefore, hfail⟩
    refine ⟨m + 1, x, hx, fun j y hj hy => ?_, ?_⟩
    · cases j with
      | zero =>
        cases Option.some.inj hy
        exact ⟨hlane, hk⟩
      | succ j =>
        have := hbefore j y (by omega) hy
        omega
    · simp only [List.length_cons]
      omega

theorem laneFault_iff (n k : Nat) (halves : List (SlotId × Fin 8)) (slot : SlotId) :
    laneFault n k halves = some slot ↔ LanesFailFrom k halves n slot := by
  induction halves generalizing k with
  | nil => exact ⟨nofun, fun ⟨_, _, h, _⟩ => absurd h nofun⟩
  | cons x rest ih =>
    obtain ⟨i, lane⟩ := x
    rw [laneFault]
    by_cases hbad : (lane.val ≠ k ∨ n ≤ k) ∨ (rest.isEmpty ∧ k + 1 < n)
    · have hslot : (if lane.val ≠ k ∨ n ≤ k then some i else if rest.isEmpty ∧ k + 1 < n then some i else laneFault n (k + 1) rest)
          = some i := by
        split
        · rfl
        · next h => rw [if_pos (hbad.resolve_left h)]
      rw [hslot]
      constructor
      · intro h
        cases h
        refine ⟨0, lane, rfl, fun j _ hj => absurd hj (Nat.not_lt_zero _), ?_⟩
        rcases hbad with (h | h) | ⟨h, h'⟩
        · exact .inl h
        · exact .inr (.inl h)
        · exact .inr (.inr ⟨by rw [List.isEmpty_iff.mp h]; rfl, h'⟩)
      · rintro ⟨m, y, hy, hbefore, -⟩
        cases m with
        | zero => exact congrArg (fun z => some z.1) (Option.some.inj hy)
        | succ m =>
          obtain ⟨h1, h2⟩ := hbefore 0 (i, lane) (Nat.succ_pos _) rfl
          rcases hbad with (h | h) | ⟨h, -⟩
          · exact absurd h1 h
          · omega
          · rw [List.isEmpty_iff.mp h] at hy
            cases hy
    · obtain ⟨hgood, hmore⟩ := not_or.mp hbad
      rw [if_neg hgood, if_neg hmore, ih]
      obtain ⟨h1, h2⟩ := not_or.mp hgood
      exact (lanesFailFrom_cons (not_not.mp h1) (by omega) fun hr => by
        have : ¬ k + 1 < n := fun h => hmore ⟨by rw [hr]; rfl, h⟩
        omega).symm

/-- The lane sequence has no fault exactly where the halves name the lanes that are left, each once, in order. -/
theorem laneFault_none_iff (n k : Nat) (halves : List (SlotId × Fin 8)) :
    laneFault n k halves = none ↔ halves = [] ∨ (halves.map fun x => x.2.val) = List.range' k (n - k) := by
  induction halves generalizing k with
  | nil => exact ⟨fun _ => .inl rfl, fun _ => rfl⟩
  | cons x rest ih =>
    obtain ⟨i, lane⟩ := x
    rw [laneFault, List.map_cons]
    by_cases hk : k < n
    · have hrange : List.range' k (n - k) = k :: List.range' (k + 1) (n - (k + 1)) := by
        rw [show n - k = n - (k + 1) + 1 by omega, List.range'_succ]
      simp only [hrange, reduceCtorEq, false_or, List.cons.injEq]
      by_cases hlane : lane.val = k
      · rw [if_neg (by omega)]
        by_cases hlast : rest.isEmpty ∧ k + 1 < n
        · rw [if_pos hlast, List.isEmpty_iff.mp hlast.1]
          refine ⟨nofun, fun ⟨_, h⟩ => absurd (congrArg List.length h) ?_⟩
          simp only [List.map_nil, List.length_nil, List.length_range']
          omega
        · rw [if_neg hlast, ih]
          refine ⟨fun h => ⟨hlane, h.elim (fun hr => ?_) id⟩, fun h => .inr h.2⟩
          have : ¬ k + 1 < n := fun hn => hlast ⟨by rw [hr]; rfl, hn⟩
          rw [hr, show n - (k + 1) = 0 by omega]
          rfl
      · rw [if_pos (.inl hlane)]
        exact ⟨nofun, fun h => absurd h.1 hlane⟩
    · rw [if_pos (.inr (by omega)), show n - k = 0 by omega]
      exact ⟨nofun, fun h => by simp at h⟩

theorem Bank.mem_lanesOf {b : Bank} {d : Direction} {c : ChanId} {x : SlotId × Fin 8} :
    x ∈ b.lanesOf d c ↔ ∃ h, b[x.1.val].half d = some h ∧ h.chan = c ∧ h.lane = x.2 := by
  simp only [Bank.lanesOf, List.mem_filterMap, List.mem_finRange, true_and]
  constructor
  · rintro ⟨i, hi⟩
    split at hi
    · next h hh =>
      split at hi
      · next hc =>
        cases Option.some.inj hi
        exact ⟨h, hh, hc, rfl⟩
      · cases hi
    · cases hi
  · rintro ⟨h, hh, hc, hl⟩
    refine ⟨x.1, ?_⟩
    simp only [hh]
    rw [if_pos hc, hl]

theorem lanesFailAt_mem {halves : List (SlotId × Fin 8)} {n : Nat} {slot : SlotId} (h : LanesFailAt halves n slot) :
    ∃ lane, (slot, lane) ∈ halves := by
  obtain ⟨i, lane, hi, -⟩ := h
  exact ⟨lane, List.mem_of_getElem? hi⟩

/-! ## The checks of a half, a slot and a bank (R32, R34) -/

theorem State.namedElsewhere_iff (s : State) (l : LinkId) (c : ChanId) :
    s.namedElsewhere l c = true ↔ ∃ k, k ≠ l ∧ ((s.map k).active.names c = true
      ∨ ((s.map k).swapPending = true ∧ (s.map k).standby.names c = true)) := by
  simp [State.namedElsewhere, SlotMap.holds]

section
variable {s : State} {l : LinkId} {cfg : LinkConfig} {slot : SlotId} {d : Direction} {h : Half}

theorem State.halfFault_none_iff : s.halfFault l cfg slot d h = none ↔
    slot.val < cfg.slots ∧ (s.chan h.chan).isOpen = true ∧ (s.chan h.chan).cfg.dir = d ∧ (s.chan h.chan).cfg.width = cfg.width
      ∧ laneFault (s.chan h.chan).cfg.lanes 0 ((s.map l).standby.lanesOf d h.chan) ≠ some slot
      ∧ s.namedElsewhere l h.chan = false := by
  simp only [State.halfFault]
  grind

theorem State.halfFailure_some_iff {f : MapFailure} : s.halfFailure l cfg slot d = some f ↔
    ∃ h, (s.map l).standby[slot.val].half d = some h ∧ s.halfFault l cfg slot d h = some f.reason
      ∧ f.slot = slot ∧ f.dir = d ∧ f.chan = h.chan := by
  rw [State.halfFailure]
  split
  · next hn => simp [hn]
  · next x hx =>
    simp only [Option.map_eq_some_iff, hx, Option.some.injEq, exists_eq_left']
    constructor
    · rintro ⟨why, hw, rfl⟩
      exact ⟨hw, rfl, rfl, rfl⟩
    · rintro ⟨hw, rfl, rfl, hc⟩
      exact ⟨_, hw, by rw [← hc]⟩

theorem State.halfFailure_none_iff : s.halfFailure l cfg slot d = none ↔
    ∀ h, (s.map l).standby[slot.val].half d = some h → s.halfFault l cfg slot d h = none := by
  rw [State.halfFailure]
  split
  · next hn => simp [hn]
  · next x hx => simp [hx]

theorem State.slotFailure_none_iff : s.slotFailure l cfg slot = none ↔ ∀ d, s.halfFailure l cfg slot d = none := by
  have hboth : (∀ d, s.halfFailure l cfg slot d = none) ↔
      s.halfFailure l cfg slot .rx = none ∧ s.halfFailure l cfg slot .tx = none :=
    ⟨fun h => ⟨h _, h _⟩, fun h d => by cases d <;> simp [h]⟩
  rw [hboth, State.slotFailure]
  cases s.halfFailure l cfg slot .rx <;> cases s.halfFailure l cfg slot .tx <;> simp
  split <;> simp

/-- The failure of a slot is that of one of its halves, and no half fails for an earlier reason; the receive half comes first. -/
theorem State.slotFailure_some {f : MapFailure} (hf : s.slotFailure l cfg slot = some f) :
    s.halfFailure l cfg slot f.dir = some f
      ∧ ∀ g, s.halfFailure l cfg slot g.dir = some g →
        f.reason.code ≤ g.reason.code ∧ (f.reason.code = g.reason.code → g.dir = .rx → f.dir = .rx) := by
  have hdir (d : Direction) (x : MapFailure) (hx : s.halfFailure l cfg slot d = some x) : x.dir = d := by
    obtain ⟨_, _, _, _, h, _⟩ := State.halfFailure_some_iff.mp hx
    exact h
  rw [State.slotFailure] at hf
  have hrx := hdir .rx
  have htx := hdir .tx
  have hcases (g : MapFailure) (hg : s.halfFailure l cfg slot g.dir = some g) :
      s.halfFailure l cfg slot .rx = some g ∧ g.dir = .rx ∨ s.halfFailure l cfg slot .tx = some g ∧ g.dir = .tx := by
    cases hd : g.dir
    · exact .inl ⟨hd ▸ hg, rfl⟩
    · exact .inr ⟨hd ▸ hg, rfl⟩
  generalize ha : s.halfFailure l cfg slot .rx = a at hf hrx hcases
  generalize hb : s.halfFailure l cfg slot .tx = b at hf htx hcases
  cases a with
  | none =>
    have hfb : b = some f := hf
    have hd := htx f hfb
    refine ⟨by rw [hd, hb, hfb], fun g hg => ?_⟩
    rcases hcases g hg with ⟨h, _⟩ | ⟨h, hgd⟩
    · cases h
    · cases hfb.symm.trans h
      exact ⟨le_refl _, fun _ h => h⟩
  | some x =>
    cases b with
    | none =>
      have hfa : x = f := Option.some.inj hf
      subst hfa
      have hd := hrx x rfl
      refine ⟨by rw [hd, ha], fun g hg => ?_⟩
      rcases hcases g hg with ⟨h, _⟩ | ⟨h, _⟩
      · cases Option.some.inj h
        exact ⟨le_refl _, fun _ h => h⟩
      · cases h
    | some y =>
      have hx := hrx x rfl
      have hy := htx y rfl
      by_cases hlt : y.reason.code < x.reason.code
      · have hfy : y = f := Option.some.inj (by simpa only [if_pos hlt] using hf)
        subst hfy
        refine ⟨by rw [hy, hb], fun g hg => ?_⟩
        rcases hcases g hg with ⟨h, _⟩ | ⟨h, _⟩
        · cases Option.some.inj h
          exact ⟨hlt.le, fun heq => absurd heq (by omega)⟩
        · cases Option.some.inj h
          exact ⟨le_refl _, fun _ h => h⟩
      · have hfx : x = f := Option.some.inj (by simpa only [if_neg hlt] using hf)
        subst hfx
        refine ⟨by rw [hx, ha], fun g hg => ?_⟩
        rcases hcases g hg with ⟨h, _⟩ | ⟨h, _⟩
        · cases Option.some.inj h
          exact ⟨le_refl _, fun _ h => h⟩
        · cases Option.some.inj h
          exact ⟨by omega, fun _ _ => hx⟩

end

theorem State.mapFailure_none_iff (s : State) (l : LinkId) (cfg : LinkConfig) : s.mapFailure l cfg = none ↔
    ∀ (slot : SlotId) (d : Direction) (h : Half), (s.map l).standby[slot.val].half d = some h →
      s.halfFault l cfg slot d h = none := by
  simp only [State.mapFailure, List.findSome?_eq_none_iff, List.mem_finRange, forall_true_left, State.slotFailure_none_iff,
    State.halfFailure_none_iff]

/-- The failure of a bank is that of its lowest slot that fails. -/
theorem State.mapFailure_some {s : State} {l : LinkId} {cfg : LinkConfig} {f : MapFailure} (hf : s.mapFailure l cfg = some f) :
    ∃ slot, s.slotFailure l cfg slot = some f ∧ ∀ i, i < slot → s.slotFailure l cfg i = none := by
  obtain ⟨before, slot, after, hsplit, hslot, hbefore⟩ := List.findSome?_eq_some_iff.mp hf
  refine ⟨slot, hslot, fun i hi => hbefore i ?_⟩
  have hmem : i ∈ before ++ slot :: after := hsplit ▸ List.mem_finRange i
  have hsorted : (before ++ slot :: after).Pairwise (· < ·) := hsplit ▸ List.pairwise_lt_finRange 128
  rcases List.mem_append.mp hmem with h | h
  · exact h
  · obtain ⟨_, hafter, _⟩ := List.pairwise_append.mp hsorted
    rcases List.mem_cons.mp h with rfl | h
    · exact absurd hi (lt_irrefl _)
    · exact absurd (hi.trans (List.rel_of_pairwise_cons hafter h)) (lt_irrefl _)

end Sys2Proof.Machine

namespace Sys2Proof.Proofs
open Sys2Proof.Machine

/-- Settles O10: induction on the pieces that are left to cut. -/
theorem listPiecesCutAtBlocks : Obligations.ListPiecesCutAtBlocks := by
  unfold Obligations.ListPiecesCutAtBlocks
  intro base length _ hmax _
  refine ⟨cutPieces_length_le _ _ _ _, cutPieces_sum _ _ _ _ (by omega), fun i hi => ?_⟩
  obtain ⟨hoffset, hrest⟩ := cutPieces_at 9 base 0 length i hi
  exact ⟨hoffset.trans (Nat.zero_add _), hrest⟩

/-- Settles O11: every word of the copy is read back as its slot's entry, so the whole list writes every slot. -/
theorem readBackListRestoresBank : Obligations.ReadBackListRestoresBank := by
  unfold Obligations.ReadBackListRestoresBank
  refine fun b old => ⟨b.bytes_length, fun i => by rw [b.u32At_bytes, listEntryOf_listWord], ?_, ?_⟩
  · rw [b.wordsOf_bytes, firstBad, List.findIdx?_eq_none_iff]
    intro w hw
    obtain ⟨i, -, rfl⟩ := List.mem_map.mp hw
    rw [listEntryOf_listWord]
    rfl
  · rw [b.wordsOf_bytes]
    refine Vector.ext fun j hj => ?_
    exact (b.apply_words _ old ⟨j, hj⟩).trans (if_pos (List.mem_finRange _))

/-- Settles O12: a channel's lanes pass at every slot that names it exactly where they stand in order. -/
theorem validBankNamesEachLaneOnce : Obligations.ValidBankNamesEachLaneOnce := by
  unfold Obligations.ValidBankNamesEachLaneOnce
  intro s l cfg
  have helse (c : ChanId) : s.namedElsewhere l c = false ↔ ∀ k, k ≠ l → (s.map k).active.names c = false
      ∧ ((s.map k).swapPending = true → (s.map k).standby.names c = false) := by
    rw [Bool.eq_false_iff, Ne, s.namedElsewhere_iff]
    simp
  simp only [State.mapFailure_none_iff, State.halfFault_none_iff, helse]
  constructor
  · intro hall slot d h hh
    obtain ⟨hslot, hopen, hdir, hwidth, -, hnamed⟩ := hall slot d h hh
    have hin : (slot, h.lane) ∈ (s.map l).standby.lanesOf d h.chan := Bank.mem_lanesOf.mpr ⟨h, hh, rfl, rfl⟩
    have hnone : laneFault (s.chan h.chan).cfg.lanes 0 ((s.map l).standby.lanesOf d h.chan) = none := by
      refine Option.eq_none_iff_forall_ne_some.mpr fun at_ hat => ?_
      obtain ⟨lane, hmem⟩ := lanesFailAt_mem ((lanesFailFrom_zero _ _ _).mp ((laneFault_iff _ _ _ _).mp hat))
      obtain ⟨g, hg, hc, -⟩ := Bank.mem_lanesOf.mp hmem
      obtain ⟨-, -, -, -, hno, -⟩ := hall at_ d g hg
      rw [hc] at hno
      exact hno hat
    refine ⟨hslot, hopen, hdir, hwidth, ?_, hnamed⟩
    rcases (laneFault_none_iff _ _ _).mp hnone with hnil | hlanes
    · rw [hnil] at hin
      cases hin
    · rw [hlanes, List.range_eq_range']
      rfl
  · intro hall slot d h hh
    obtain ⟨hslot, hopen, hdir, hwidth, hlanes, hnamed⟩ := hall slot d h hh
    refine ⟨hslot, hopen, hdir, hwidth, fun hat => ?_, hnamed⟩
    have hnone := (laneFault_none_iff (s.chan h.chan).cfg.lanes 0 ((s.map l).standby.lanesOf d h.chan)).mpr
      (.inr (by rw [hlanes, List.range_eq_range']; rfl))
    rw [hnone] at hat
    cases hat

/-- Settles O13: the checks in their order; the failure of the bank is that of its lowest failing slot. -/
theorem mapInvalidNamesFirstFailure : Obligations.MapInvalidNamesFirstFailure := by
  unfold Obligations.MapInvalidNamesFirstFailure
  refine ⟨fun s l cfg slot d h => ?_, fun s l cfg f hf => ?_⟩
  · intro ch isOpen lanes elsewhere fault
    have hlanes : laneFault ch.cfg.lanes 0 ((s.map l).standby.lanesOf d h.chan) = some slot ↔ lanes :=
      (laneFault_iff _ _ _ _).trans (lanesFailFrom_zero _ _ _)
    have hopen : ch.isOpen = true ↔ isOpen := ch.isOpen_iff
    have helse : s.namedElsewhere l h.chan = true ↔ elsewhere := s.namedElsewhere_iff l h.chan
    simp only [fault, State.halfFault, Bool.not_eq_eq_eq_not, Bool.not_true]
    refine ⟨fun hs => if_pos hs, fun hs => ⟨fun ho => ?_, fun ho hd => ?_, fun ho hd => ⟨fun hw => ?_, fun hw hl => ?_,
      fun hw hl he => ?_, fun hw hl he => ?_⟩⟩⟩
    all_goals rw [if_neg (by omega)]
    · exact if_pos (Bool.eq_false_iff.mpr fun h => ho (hopen.mp h))
    all_goals rw [if_neg (by rw [hopen.mpr ho]; nofun)]
    · exact if_pos hd
    all_goals rw [if_neg (not_not.mpr hd)]
    · exact if_pos hw
    all_goals rw [if_neg (not_not.mpr hw)]
    · exact if_pos (hlanes.mpr hl)
    · rw [if_neg fun h => hl (hlanes.mp h), if_pos (helse.mpr he)]
    · rw [if_neg fun h => hl (hlanes.mp h), if_neg fun h => he (helse.mp h)]
  · obtain ⟨slot, hslot, hbefore⟩ := State.mapFailure_some hf
    obtain ⟨hmine, hother⟩ := State.slotFailure_some hslot
    obtain ⟨h, hh, hfault, hat, -, hchan⟩ := State.halfFailure_some_iff.mp hmine
    subst hat
    refine ⟨⟨h, hh, hchan.symm, hfault⟩, fun i d g hi hg => ?_, fun d g why hg hw => ?_⟩
    · exact State.halfFailure_none_iff.mp (State.slotFailure_none_iff.mp (hbefore i hi) d) g hg
    · exact hother { slot := f.slot, reason := why, dir := d, chan := g.chan }
        (State.halfFailure_some_iff.mpr ⟨g, hg, hw, rfl, rfl, rfl⟩)

end Sys2Proof.Proofs
end

section
/-! PROOFS. A staging FIFO at the link (R64, R65, R67, R68): what a launch, a take and a departure make of a settled channel. -/

set_option Elab.async false

namespace Sys2Proof.Machine

/-! ## Settling where records end but no request and no ended pass does -/

/-- The finished records retire, and the consumed index is that of the list with them RETIRING. -/
theorem Channel.settle_ending (ch : Channel) (hrequests : ∀ q ∈ ch.requests, q.over = false)
    (hpasses : ∀ r ∈ ch.list, ∀ p ∈ r.ended, r.passDone ch.cfg.dir p = false) (c : ChanId) {n : U16}
    (hn : n = consumedIndex (ch.list.map fun x => if ch.finished x then { x with state := .retiring } else x) ch.fetch) :
    ch.settle c = ({ ch with
      list := (ch.list.map fun x => if ch.finished x then x.retire c ch.cfg.dir n else x).dropWhile BufferRecord.gone
      consumed := n
      buffersDone := addCount ch.buffersDone ((ch.list.filter ch.finished).filter fun x => !x.state.isPoisoned).length },
      (ch.list.filter ch.finished).filterMap BufferRecord.window) := by
  have hkeep : ch.list.map (fun x => x.keepPasses ch.cfg.dir) = ch.list :=
    (List.map_congr_left fun x hx => x.keepPasses_id _ (hpasses x hx)).trans (List.map_id' _)
  have hlist (before : BufferRecord → U16) (after : U16) : (ch.list.map fun x =>
      if ch.finished (x.keepPasses ch.cfg.dir)
        then (x.passesLeave c ch.cfg.dir (before x)).retire c ch.cfg.dir after else x.passesLeave c ch.cfg.dir (before x))
      = ch.list.map fun x => if ch.finished x then x.retire c ch.cfg.dir after else x :=
    List.map_congr_left fun x hx => by rw [x.keepPasses_id _ (hpasses x hx), x.passesLeave_id c _ _ (hpasses x hx)]
  unfold Channel.settle
  simp only [Channel.reap_quiet ch hrequests, hkeep]
  rw [hlist, ← hn]
  rfl

theorem List.map_if_of_split {α : Type} {p : α → Bool} {f : α → α} {older newer : List α} {r : α}
    (ho : ∀ x ∈ older ++ newer, p x = false) (hr : p r = true) :
    ((older ++ r :: newer).map fun x => if p x then f x else x) = older ++ f r :: newer := by
  have hid (l : List α) (h : ∀ x ∈ l, p x = false) : (l.map fun x => if p x then f x else x) = l :=
    (List.map_congr_left fun x hx => if_neg (by simp [h x hx])).trans (List.map_id' l)
  rw [List.map_append, List.map_cons, hid older fun x hx => ho x (by simp [hx]), hid newer fun x hx => ho x (by simp [hx]),
    if_pos hr]

theorem List.filter_of_split {α : Type} {p : α → Bool} {older newer : List α} {r : α}
    (ho : ∀ x ∈ older ++ newer, p x = false) (hr : p r = true) : (older ++ r :: newer).filter p = [r] := by
  have hnil (l : List α) (h : ∀ x ∈ l, p x = false) : l.filter p = [] :=
    List.filter_eq_nil_iff.mpr fun x hx => by simp [h x hx]
  rw [List.filter_append, List.filter_cons_of_pos hr, hnil older fun x hx => ho x (by simp [hx]),
    hnil newer fun x hx => ho x (by simp [hx])]
  rfl

/-- Exactly one record of the list is finished. -/
theorem Channel.settle_one {ch : Channel} {older newer : List BufferRecord} {r : BufferRecord}
    (hrequests : ∀ q ∈ ch.requests, q.over = false)
    (hpasses : ∀ x ∈ ch.list, ∀ p ∈ x.ended, x.passDone ch.cfg.dir p = false) (hl : ch.list = older ++ r :: newer)
    (ho : ∀ x ∈ older ++ newer, ch.finished x = false) (hr : ch.finished r = true) (hp : r.state.isPoisoned = false) (c : ChanId)
    {n : U16} (hn : n = consumedIndex (older ++ { r with state := .retiring } :: newer) ch.fetch) :
    ch.settle c = ({ ch with
      list := (older ++ r.retire c ch.cfg.dir n :: newer).dropWhile BufferRecord.gone
      consumed := n
      buffersDone := ch.buffersDone + 1 }, r.window.toList) := by
  rw [ch.settle_ending hrequests hpasses c (n := n) (by rw [hl, List.map_if_of_split ho hr, hn]), hl, List.map_if_of_split ho hr,
    List.filter_of_split ho hr]
  cases hw : r.window <;> simp [hp, hw, addCount]

/-- A record that retires with a completion to deliver (R91, R101). -/
theorem BufferRecord.retire_formed (r : BufferRecord) {n : U16} (c : ChanId) (d : Direction)
    (h : r.state ≠ .current ∨ r.finalStatus ≠ .done) (hn : r.notify = true ∨ r.finalStatus ≠ .done) :
    r.retire c d n = { r with
      state := .retiring
      window := none
      completion := some (bufferDone c d r r.pass r.finalStatus r.folded n) } := by
  have houtcome : r.outcome = r.finalStatus := if_neg fun k => h.elim (fun h => h k.1) (fun h => h k.2)
  have hformed : (r.notify || r.finalStatus != .done) = true := by simpa using hn
  simp only [BufferRecord.retire, houtcome, hformed, if_true]

/-! ## Changes that leave a channel settled -/

/-- The second record stands as the first, and no nearer to its end. -/
structure BufferRecord.AsOpen (d : Direction) (a b : BufferRecord) : Prop where
  state : b.state = a.state
  ring : b.ring = a.ring
  status : b.finalStatus = a.finalStatus
  completion : b.completion = a.completion
  passCpls : b.passCpls = a.passCpls
  noPass : b.ended = [] → a.ended = []
  finished : b.frames ≤ b.pass.finished → a.frames ≤ a.pass.finished
  passes : (∀ p ∈ a.ended, a.passDone d p = false) → ∀ p ∈ b.ended, b.passDone d p = false

theorem BufferRecord.AsOpen.refl (d : Direction) (r : BufferRecord) : r.AsOpen d r :=
  ⟨rfl, rfl, rfl, rfl, rfl, id, id, id⟩

/-- A change of the pass in progress that counts no finished frame. -/
theorem BufferRecord.AsOpen.of_pass {d : Direction} (r : BufferRecord) (p : Pass) (h : p.finished = r.pass.finished) :
    r.AsOpen d { r with pass := p } :=
  ⟨rfl, rfl, rfl, rfl, rfl, id, fun k => h ▸ k, id⟩

theorem BufferRecord.AsOpen.mapPass {d : Direction} (r : BufferRecord) (n : Nat) (f : Pass → Pass)
    (h : ∀ p, (f p).finished = p.finished ∧ (f p).answered = p.answered) : r.AsOpen d (r.mapPass n f) := by
  unfold BufferRecord.mapPass
  split
  · exact .of_pass r _ (h _).1
  · refine ⟨rfl, rfl, rfl, rfl, rfl, List.map_eq_nil_iff.mp, id, fun hd p hp => ?_⟩
    obtain ⟨q, hq, rfl⟩ := List.mem_map.mp hp
    have hold := hd q hq
    cases d <;> simp only [BufferRecord.passDone] at hold ⊢ <;> split <;> simp [h, hold]

/-- What the consumed index looks at in a record. -/
def BufferRecord.standing (r : BufferRecord) : RecState × U16 := (r.state, r.ring)

theorem consumedIndex_congr {a b : List BufferRecord} (h : b.map BufferRecord.standing = a.map BufferRecord.standing) (fetch : U16) :
    consumedIndex b fetch = consumedIndex a fetch := by
  have hview (l : List BufferRecord) : consumedIndex l fetch
      = match (l.map BufferRecord.standing).find? fun v => v.1 != .retiring with
        | some v => v.2
        | none => match (l.map BufferRecord.standing).getLast? with
          | some v => v.2 + 1
          | none => fetch := by
    rw [consumedIndex, List.find?_map, List.getLast?_map]
    show _ = match (l.find? fun r => r.state != .retiring).map BufferRecord.standing with
      | some v => v.2
      | none => match l.getLast?.map BufferRecord.standing with
        | some v => v.2 + 1
        | none => fetch
    cases l.find? fun r => r.state != .retiring with
    | some x => rfl
    | none => cases l.getLast? <;> rfl
  rw [hview b, hview a, h]

theorem AsOpen.standing_eq {d : Direction} {a b : List BufferRecord} (h : List.Forall₂ (BufferRecord.AsOpen d) a b) :
    b.map BufferRecord.standing = a.map BufferRecord.standing := by
  induction h with
  | nil => rfl
  | cons hxy _ ih => rw [List.map_cons, List.map_cons, ih, BufferRecord.standing, BufferRecord.standing, hxy.state, hxy.ring]

/-- A record no nearer to its end than one that is not finished is not finished either. -/
theorem Channel.finished_asOpen {ch : Channel} {a b : BufferRecord} (h : a.AsOpen ch.cfg.dir b) (hf : ch.finished a = false) :
    ch.finished b = false := by
  have hempty (hb : b.ended.isEmpty = true) : a.ended.isEmpty = true := by
    rw [List.isEmpty_iff] at hb ⊢
    exact h.noPass hb
  have hlast := h.finished
  simp only [Channel.finished, Channel.inFlight, h.state, h.ring, h.status] at hf ⊢
  cases hs : a.state <;> simp only [hs] at hf ⊢ <;> grind

/-- A channel whose records stand no nearer to their ends is settled as before. -/
theorem Channel.Settled.of_asOpen {a b : Channel} (h : a.Settled) (ha : a.state ≠ .closing) (hb : b.state ≠ .closing)
    (hl : List.Forall₂ (BufferRecord.AsOpen a.cfg.dir) a.list b.list) (hq : b.requests = a.requests) (hc : b.config = a.config)
    (hf : b.fetch = a.fetch) (hn : b.consumed = a.consumed) : b.Settled := by
  have hcfg : b.cfg = a.cfg := by simp only [Channel.cfg, hc]
  have hback (y : BufferRecord) (hy : y ∈ b.list) : ∃ x ∈ a.list, x.AsOpen a.cfg.dir y := by
    have : ∀ {p q : List BufferRecord}, List.Forall₂ (BufferRecord.AsOpen a.cfg.dir) p q → ∀ y ∈ q, ∃ x ∈ p, x.AsOpen a.cfg.dir y := by
      intro p q hpq
      induction hpq with
      | nil => exact fun _ h => absurd h List.not_mem_nil
      | cons hxy _ ih =>
        intro y hy
        rcases List.mem_cons.mp hy with rfl | hy
        · exact ⟨_, List.mem_cons_self, hxy⟩
        · obtain ⟨x, hx, hxy⟩ := ih y hy
          exact ⟨x, List.mem_cons_of_mem _ hx, hxy⟩
    exact this hl y hy
  refine ⟨hq ▸ h.requests, fun y hy => ?_, fun y hy p hp => ?_, fun y hy => ?_, ?_⟩
  · obtain ⟨x, hx, hxy⟩ := hback y hy
    rw [Channel.finished_congr ha hb hq hc]
    exact Channel.finished_asOpen hxy (h.records x hx)
  · obtain ⟨x, hx, hxy⟩ := hback y hy
    rw [hcfg]
    exact hxy.passes (h.passes x hx) p hp
  · cases hal : a.list with
    | nil =>
      rw [hal] at hl
      rw [List.forall₂_nil_left_iff.mp hl] at hy
      cases hy
    | cons x xs =>
      rw [hal] at hl
      obtain ⟨z, zs, hxz, _, hbl⟩ := List.forall₂_cons_left_iff.mp hl
      rw [hbl] at hy
      cases Option.some.inj hy
      have hgone := h.oldest x (by rw [hal]; rfl)
      simpa only [BufferRecord.gone, hxz.state, hxz.completion, hxz.passCpls] using hgone
  · rw [hn, h.consumed, hf, consumedIndex_congr (AsOpen.standing_eq hl)]

/-- A change record by record. -/
theorem AsOpen.map {d : Direction} {l : List BufferRecord} {f : BufferRecord → BufferRecord} (h : ∀ x ∈ l, x.AsOpen d (f x)) :
    List.Forall₂ (BufferRecord.AsOpen d) l (l.map f) := by
  rw [List.forall₂_map_right_iff, List.forall₂_same]
  exact h

theorem AsOpen.list_refl (d : Direction) (l : List BufferRecord) : List.Forall₂ (BufferRecord.AsOpen d) l l :=
  List.forall₂_same.mpr fun x _ => .refl d x

/-- A change of one record of the list. -/
theorem AsOpen.of_split {d : Direction} {l older newer : List BufferRecord} {r r' : BufferRecord} (hl : l = older ++ r :: newer)
    (h : r.AsOpen d r') : List.Forall₂ (BufferRecord.AsOpen d) l (older ++ r' :: newer) := by
  rw [hl]
  exact List.rel_append (AsOpen.list_refl d older) (.cons h (AsOpen.list_refl d newer))

/-- A change of the pass that a frame belongs to, where the ring index and the pass number name one record and its pass. -/
theorem Channel.mapPass_of_split {ch : Channel} {older newer : List BufferRecord} {r : BufferRecord} {ring : U16} {n : Nat}
    (hl : ch.list = older ++ r :: newer) (hr : r.ring = ring) (ho : ∀ x ∈ older ++ newer, x.ring ≠ ring) (hn : r.pass.count = n)
    (f : Pass → Pass) : ch.mapPass ring n f = { ch with list := older ++ { r with pass := f r.pass } :: newer } := by
  subst hr
  have hpass : r.mapPass n f = { r with pass := f r.pass } := if_pos hn
  simp only [Channel.mapPass, Channel.mapRecord, Channel.mapRecords, map_ring_of_split (fun x => x.mapPass n f) hl ho, hpass]

/-! ## Transmit (R67, R68) -/

section
variable {ch : Channel}

theorem Channel.flowing_iff (ch : Channel) : ch.flowing = true ↔ ch.state = .starved ∨ ch.state = .active := by
  simp [Channel.flowing]

theorem Channel.not_closing_of_open (h : ch.isOpen = true) : ch.state ≠ .closing := fun hc => by
  rcases ch.isOpen_iff.mp h with k | k | k <;> rw [hc] at k <;> cases k

theorem Channel.depart_none (h : ¬ ∃ g gs, ch.groups = g :: gs ∧ g.cond = .launching ∧ g.nextLane = ch.cfg.lanes) :
    ch.depart = ch := by
  unfold Channel.depart
  split
  · next g hg =>
    obtain ⟨gs, hgs, hc⟩ := Channel.launchGroup_eq_some hg
    exact if_neg fun hn => h ⟨g, gs, hgs, hc, hn⟩
  · rfl

theorem Channel.depart_due {g : Group} {gs : List Group} (hg : ch.groups = g :: gs) (hc : g.cond = .launching)
    (hn : g.nextLane = ch.cfg.lanes) :
    ch.depart = ({ ch with groups := gs, moved := ch.moved + 1 }).mapSource g.source Pass.departOne := by
  unfold Channel.depart
  rw [Channel.launchGroup_some hg hc]
  simp only [if_pos hn, hg]
  rfl

theorem Channel.launchFrame0_whole {g : Group} {gs : List Group} (hf : ch.flowing = true) (hg : ch.groups = g :: gs)
    (hc : g.cond = .whole) (frame : U32) : ch.launchFrame0 frame = (ch.launch g frame, slotWord ch.cfg.width (g.sample 0)) := by
  simp [Channel.launchFrame0, hg, hf, hc]

theorem Channel.launchFrame0_idle (h : ch.flowing = true → ∀ g gs, ch.groups = g :: gs → g.cond ≠ .whole) (frame : U32) :
    ch.launchFrame0 frame = (ch.idle frame, ch.idleWord) := by
  unfold Channel.launchFrame0
  split
  · next g hg =>
    obtain ⟨gs, hgs⟩ := List.head?_eq_some_iff.mp hg
    exact if_neg fun k => by
      obtain ⟨hf, hw⟩ := Bool.and_eq_true_iff.mp k
      exact h hf g gs hgs (by simpa using hw)
  · rfl

theorem Channel.launchLane_next {g : Group} {gs : List Group} {k : Nat} (hg : ch.groups = g :: gs) (hc : g.cond = .launching)
    (hn : g.nextLane = k) :
    ch.launchLane k = ({ ch with groups := { g with nextLane := k + 1 } :: gs }, slotWord ch.cfg.width (g.sample k)) := by
  simp only [Channel.launchLane, Channel.launchGroup_some hg hc, if_pos hn, hg, List.tail_cons]

theorem Channel.launchLane_idle {k : Nat} (h : ∀ g gs, ch.groups = g :: gs → ¬ (g.cond = .launching ∧ g.nextLane = k)) :
    ch.launchLane k = (ch, ch.idleWord) := by
  unfold Channel.launchLane
  split
  · next g hg =>
    obtain ⟨gs, hgs, hc⟩ := Channel.launchGroup_eq_some hg
    exact if_neg fun hn => h g gs hgs ⟨hc, hn⟩
  · rfl

theorem underrunOldest_none {l : List BufferRecord} (h : ∀ r ∈ l, r.departing = false) : underrunOldest l = l := by
  induction l with
  | nil => rfl
  | cons r l ih =>
    rw [underrunOldest, if_neg (by simp [h r]), ih fun x hx => h x (List.mem_cons_of_mem _ hx)]

theorem underrunOldest_split {pre post : List BufferRecord} {r : BufferRecord} (h : ∀ x ∈ pre, x.departing = false)
    (hr : r.departing = true) : underrunOldest (pre ++ r :: post) = pre ++ r.underrun :: post := by
  induction pre with
  | nil => exact if_pos hr
  | cons x pre ih =>
    rw [List.cons_append, underrunOldest, if_neg (by simp [h x]), ih fun y hy => h y (List.mem_cons_of_mem _ hy)]
    rfl

theorem BufferRecord.underrun_pass {r : BufferRecord} (h : r.ended = []) : r.underrun = { r with pass := r.pass.underrunIdle } := by
  rw [BufferRecord.underrun, h]
  rfl

theorem BufferRecord.underrun_ended {r : BufferRecord} {p : Pass} {ps : List Pass} (h : r.ended = p :: ps)
    (hp : p.finished < r.frames) : r.underrun = { r with ended := p.underrunIdle :: ps } := by
  have hdepart : r.toDepart p = true := decide_eq_true hp
  rw [BufferRecord.underrun, h, List.any_cons, hdepart, Bool.true_or, if_pos rfl, underrunEnded, if_pos hp]

theorem BufferRecord.AsOpen.of_ended {d : Direction} {r : BufferRecord} {p q : Pass} {ps : List Pass} (h : r.ended = p :: ps)
    (hf : q.finished = p.finished) (ha : q.answered = p.answered) : r.AsOpen d { r with ended := q :: ps } :=
  ⟨rfl, rfl, rfl, rfl, rfl, nofun, id, fun hd x hx => by
    rcases List.mem_cons.mp hx with rfl | hx
    · have hold := hd p (by rw [h]; exact List.mem_cons_self)
      cases d <;> simpa only [BufferRecord.passDone, hf, ha] using hold
    · exact hd x (by rw [h]; exact List.mem_cons_of_mem _ hx)⟩

theorem Channel.idle_flowing (h : ch.flowing = true) (frame : U32) :
    ch.idle frame = { ch with idleFrame := some frame, lost := ch.lost + 1, list := underrunOldest ch.list } := by
  rw [Channel.idle, if_pos h]
  rfl

theorem Channel.idle_halted (h : ch.state = .halted) (frame : U32) :
    ch.idle frame = { ch with idleFrame := some frame, lost := ch.lost + 1 } := by
  rw [Channel.idle, if_neg (by simp [Channel.flowing, h])]
  rfl

/-- The launch sets the stamp of the pass that the group's frame 0 was read from. -/
theorem Channel.launch_eq {g : Group} {gs : List Group} (hg : ch.groups = g :: gs) (frame : U32) :
    ch.launch g frame = { ch with
      groups := { g with cond := .launching, stamp := some frame, nextLane := 1 } :: gs
      idleFrame := none
      list := match g.source with
        | some src => if src.frame = 0 then
            ch.list.map fun r => if r.ring = src.ring then
              r.mapPass src.pass fun p => { p with stamp := some frame } else r
          else ch.list
        | none => ch.list } := by
  unfold Channel.launch
  simp only [hg, List.tail_cons]
  cases g.source with
  | none => rfl
  | some src =>
    by_cases h0 : src.frame = 0
    · simp only [if_pos h0]
      rfl
    · simp only [if_neg h0]

theorem Channel.launch_settled {g : Group} {gs : List Group} (h : ch.Settled) (hc : ch.state ≠ .closing) (hg : ch.groups = g :: gs)
    (frame : U32) : (ch.launch g frame).Settled := by
  rw [Channel.launch_eq hg]
  refine h.of_asOpen hc hc ?_ rfl rfl rfl rfl
  show List.Forall₂ _ _ (match g.source with
    | some src => _
    | none => _)
  split
  · split
    · refine AsOpen.map fun r _ => ?_
      split
      · exact .mapPass r _ _ fun _ => ⟨rfl, rfl⟩
      · exact .refl _ r
    · exact AsOpen.list_refl _ _
  · exact AsOpen.list_refl _ _

end

/-! ## Receive (R64, R65) -/

section
variable {ch : Channel}

theorem Channel.takeFrame_room (hf : ch.flowing = true) (hroom : (ch.groups.length + 1) * ch.cfg.lanes ≤ 32) (stamp : U32) (x : U16) :
    ch.takeFrame stamp x = { ch with groups := ch.groups ++ [openGroup ch.cfg.lanes stamp x] } := by
  have : ch.hasRoom = true := decide_eq_true hroom
  rw [Channel.takeFrame, if_pos hf, if_pos this]

theorem Channel.takeFrame_full (hf : ch.flowing = true) (hroom : ¬ (ch.groups.length + 1) * ch.cfg.lanes ≤ 32) (stamp : U32) (x : U16) :
    ch.takeFrame stamp x = ({ ch with lost := ch.lost + 1 }).mapCurrent Pass.overrunLoss := by
  have : ch.hasRoom = false := decide_eq_false hroom
  rw [Channel.takeFrame, if_pos hf, if_neg (by simp [this])]
  rfl

theorem Channel.takeFrame_halted (h : ch.state = .halted) (stamp : U32) (x : U16) :
    ch.takeFrame stamp x = { ch with lost := ch.lost + 1 } := by
  rw [Channel.takeFrame, if_neg (by simp [Channel.flowing, h])]
  rfl

theorem Channel.takeLane_next {gs : List Group} {g : Group} {k : Nat} (hf : ch.flowing = true) (hg : ch.groups = gs ++ [g])
    (hc : g.cond = .filling) (hn : g.nextLane = k) (x : U16) :
    ch.takeLane k x = { ch with groups := gs ++ [g.fillLane ch.cfg.lanes k x] } := by
  simp [Channel.takeLane, Channel.fillGroup_some hg hc, hf, hn, hg]

theorem Channel.takeLane_other {k : Nat}
    (h : ch.flowing = true → ∀ gs g, ch.groups = gs ++ [g] → ¬ (g.cond = .filling ∧ g.nextLane = k)) (x : U16) :
    ch.takeLane k x = ch := by
  unfold Channel.takeLane
  split
  · next g hg =>
    obtain ⟨gs, hgs, hc⟩ := Channel.fillGroup_eq_some hg
    exact if_neg fun k => by
      obtain ⟨hf, hn⟩ := Bool.and_eq_true_iff.mp k
      exact h hf gs g hgs ⟨hc, by simpa using hn⟩
  · rfl

end

section
variable {s : State} {l : LinkId} {slot : SlotId} {cfg : LinkConfig} {h : Half}

/-- A transmit channel that stays settled under its launch goes back with the word on TXD. -/
theorem State.transmitSlot_settled {ch : Channel} {x : U16} (hh : s.assigned (s.map l).active[slot.val].tx .tx = some h)
    (ht : (s.chan h.chan).transmit h.lane.val (s.link l).frame = (ch, x)) (hs : ch.Settled) (hc : ch.state ≠ .closing) :
    s.transmitSlot l slot cfg = (s.setLink l
      { s.link l with bitPos := some (slot.val * cfg.width), launched := slot.val + 1, txd := some x }).put h.chan ch := by
  unfold State.transmitSlot
  simp only [hh, ht]
  exact State.update_settled _ _ _ hs hc

/-- A receive channel that stays settled under its take goes back. -/
theorem State.receiveSlot_settled {ch : Channel} {x : U16} (hh : s.assigned (s.map l).active[slot.val].rx .rx = some h)
    (ht : (s.chan h.chan).receive h.lane.val (s.link l).frame (slotWord cfg.width x) = ch) (hs : ch.Settled)
    (hc : ch.state ≠ .closing) :
    s.receiveSlot l slot cfg x = (s.setLink l ((s.link l).completeAt slot.val cfg.width)).put h.chan ch := by
  unfold State.receiveSlot
  simp only [hh, ht]
  exact State.update_settled _ _ _ hs hc

end

end Sys2Proof.Machine

namespace Sys2Proof.Proofs
open Sys2Proof.Machine

/-- Settles O36: without a departure due, a launch leaves the records no nearer to their ends. -/
theorem transmitSlotLaunches : Obligations.TransmitSlotLaunches := by
  unfold Obligations.TransmitSlotLaunches
  intro s l slot cfg h hst hcfg hslot hl hn htx hopen hdir hset ch word idleWord flowing sent idle
  have hc : ch.state ≠ .closing := Channel.not_closing_of_open hopen
  have hh : s.assigned (s.map l).active[slot.val].tx .tx = some h := State.assigned_some htx hopen hdir
  have hsent {x : U16} {ch' : Channel} (ht : ch.transmit h.lane.val (s.link l).frame = (ch', x)) (hs : ch'.Settled)
      (hc' : ch'.state ≠ .closing) : sent x ch' := by
    show exec _ s = _
    rw [State.exec_transmitSlotLaunch hst hcfg hslot hl hn, State.transmitSlot_settled hh ht hs hc']
  refine ⟨fun hlane hhead => ?_, fun hlane => ⟨fun g gs hg hcond hnext => ?_, fun hno => ?_⟩⟩
  · have hfirst (frame : U32) : ch.transmit h.lane.val frame = ch.launchFrame0 frame := by
      rw [Channel.transmit, if_pos (by rw [hlane]; rfl),
        Channel.depart_none fun ⟨g, gs, hg, hcond, _⟩ => hhead g gs hg hcond]
    have hidle {l' : List BufferRecord} (hf : ch.flowing = true) (hw : ∀ g gs, ch.groups = g :: gs → g.cond ≠ .whole)
        (hl' : underrunOldest ch.list = l') (ho : List.Forall₂ (BufferRecord.AsOpen ch.cfg.dir) ch.list l') :
        sent idleWord { idle with list := l' } := by
      refine hsent ?_ (hset.of_asOpen (b := { idle with list := l' }) hc hc ho rfl rfl rfl rfl) hc
      rw [hfirst, Channel.launchFrame0_idle fun _ => hw, Channel.idle_flowing hf, hl']
      rfl
    refine ⟨fun g gs hf hg hw => ?_, fun hf hw => ⟨fun hnone => ?_, fun pre r post hlist hpre hr => ⟨fun hended => ?_,
      fun p ps hended => ?_⟩⟩, fun hhalt => ?_⟩
    · have hlaunch := Channel.launch_eq hg (s.link l).frame
      refine hsent ?_ (hlaunch ▸ Channel.launch_settled hset hc hg _) hc
      rw [hfirst, Channel.launchFrame0_whole (ch.flowing_iff.mpr hf) hg hw, hlaunch]
      rfl
    · exact hidle (ch.flowing_iff.mpr hf) hw (underrunOldest_none hnone) (AsOpen.list_refl _ _)
    · refine hidle (ch.flowing_iff.mpr hf) hw ?_ (AsOpen.of_split hlist (.of_pass r _ rfl))
      rw [hlist, underrunOldest_split hpre hr, BufferRecord.underrun_pass hended]
      rfl
    · refine hidle (ch.flowing_iff.mpr hf) hw ?_ (AsOpen.of_split hlist (.of_ended hended rfl rfl))
      have hp := hset.passes r (by rw [hlist]; simp) p (by rw [hended]; exact List.mem_cons_self)
      have hp' : p.finished < r.frames := by
        rw [show (s.chan h.chan).cfg.dir = .tx from hdir] at hp
        exact not_le.mp (of_decide_eq_false hp)
      rw [hlist, underrunOldest_split hpre hr, BufferRecord.underrun_ended hended hp']
      rfl
    · refine hsent ?_ (hset.of_same (b := idle) hc hc rfl rfl rfl rfl rfl) hc
      rw [hfirst, Channel.launchFrame0_idle fun hf => absurd (ch.flowing_iff.mp hf) (by rw [hhalt]; decide),
        Channel.idle_halted hhalt]
      rfl
  · have hlater : h.lane.val ≠ 0 := fun h0 => hlane (Fin.ext h0)
    refine hsent ?_ (hset.of_same hc hc rfl rfl rfl rfl rfl) hc
    rw [Channel.transmit, if_neg hlater, Channel.launchLane_next hg hcond hnext]
    rfl
  · have hlater : h.lane.val ≠ 0 := fun h0 => hlane (Fin.ext h0)
    refine hsent ?_ hset hc
    rw [Channel.transmit, if_neg hlater, Channel.launchLane_idle hno]
    rfl

/-- Settles O37: a take changes the groups, or counts a loss. -/
theorem receiveSlotTakes : Obligations.ReceiveSlotTakes := by
  unfold Obligations.ReceiveSlotTakes
  intro s l slot cfg h x hst hcfg hslot hn hl hrx hopen hdir hset ch n sample flowing taken
  have hc : ch.state ≠ .closing := Channel.not_closing_of_open hopen
  have hh : s.assigned (s.map l).active[slot.val].rx .rx = some h := State.assigned_some hrx hopen hdir
  have htaken {ch' : Channel} (ht : ch.receive h.lane.val (s.link l).frame sample = ch') (hs : ch'.Settled)
      (hc' : ch'.state ≠ .closing) : taken ch' := by
    show exec _ s = _
    rw [State.exec_receiveSlotComplete hst hcfg hslot hn hl, State.receiveSlot_settled hh ht hs hc']
    rfl
  refine ⟨fun hlane => ?_, fun hlane => ?_⟩
  · have hfirst (frame : U32) (y : U16) : ch.receive h.lane.val frame y = ch.takeFrame frame y :=
      if_pos (by rw [hlane]; rfl)
    refine ⟨fun hf hroom => ?_, fun hf hroom => ?_, fun hhalt => ?_⟩
    · refine htaken ?_ (hset.of_same hc hc rfl rfl rfl rfl rfl) hc
      rw [hfirst, Channel.takeFrame_room (ch.flowing_iff.mpr hf) hroom]
      rfl
    · refine htaken ?_ (hset.of_asOpen hc hc (AsOpen.map fun r _ => ?_) rfl rfl rfl rfl) hc
      · rw [hfirst, Channel.takeFrame_full (ch.flowing_iff.mpr hf) hroom]
        rfl
      · split
        · exact .of_pass r _ rfl
        · exact .refl _ r
    · refine htaken ?_ (hset.of_same hc hc rfl rfl rfl rfl rfl) hc
      rw [hfirst, Channel.takeFrame_halted hhalt]
  · have hlater (frame : U32) (y : U16) : ch.receive h.lane.val frame y = ch.takeLane h.lane.val y :=
      if_neg fun h0 => hlane (Fin.ext h0)
    refine ⟨fun gs g hf hg hcond hnext => ?_, fun hno => ?_⟩
    · refine htaken ?_ (hset.of_same hc hc rfl rfl rfl rfl rfl) hc
      rw [hlater, Channel.takeLane_next (ch.flowing_iff.mpr hf) hg hcond hnext]
      rfl
    · refine htaken ?_ hset hc
      rw [hlater, Channel.takeLane_other fun hf => hno.resolve_left fun k => k (ch.flowing_iff.mp hf)]

/-- Settles O38: the departure counts one frame of its record; with the last one the record is finished. -/
theorem groupDeparts : Obligations.GroupDeparts := by
  unfold Obligations.GroupDeparts
  intro s c ch
  have hrow : exec (.groupDeparture c) s = .next (s.departGroup c) := rfl
  refine ⟨fun hno => ?_, ?_⟩
  · rw [hrow, State.departGroup, if_neg]
    intro hdue
    simp only [Channel.departureDue] at hdue
    split at hdue
    · next g hg =>
      obtain ⟨gs, hgs, hcond⟩ := Channel.launchGroup_eq_some hg
      exact hno ⟨g, gs, hgs, hcond, by simpa using hdue⟩
    · cases hdue
  · intro g gs src pre r post hopen hdir hset hg hcond hnext hsrc hl hring hothers hpass hended gone
    have hc : ch.state ≠ .closing := Channel.not_closing_of_open hopen
    have hdue : (s.chan c).departureDue = true := by
      rw [Channel.departureDue, Channel.launchGroup_some hg hcond]
      exact beq_iff_eq.mpr hnext
    have hdepart : ch.depart = { ch with groups := gs, moved := ch.moved + 1, list := pre ++ gone :: post } := by
      rw [Channel.depart_due hg hcond hnext, hsrc]
      exact Channel.mapPass_of_split (ch := { ch with groups := gs, moved := ch.moved + 1 }) hl hring hothers hpass _
    rw [hrow, State.departGroup, if_pos hdue, hdepart]
    refine ⟨fun hmore => ?_, fun hr hlast hpre hstate hstatus hnotify hflight => ?_⟩
    · refine congrArg Host.Outcome.next (State.update_settled _ _ _ (hset.of_asOpen hc hc (AsOpen.of_split hl
        ⟨rfl, rfl, rfl, rfl, rfl, id, fun h => absurd hmore (not_lt.mpr h), id⟩) rfl rfl rfl rfl) hc)
    · subst hpre
      obtain ⟨n, hn⟩ : ∃ n, n = consumedIndex ({ r with state := .retiring } :: post) ch.fetch := ⟨_, rfl⟩
      have hsettle : ({ ch with groups := gs, moved := ch.moved + 1, list := gone :: post } : Channel).settle c
          = ({ ch with
              groups := gs, moved := ch.moved + 1, buffersDone := ch.buffersDone + 1, consumed := n
              list := { gone with state := .retiring, window := none,
                                  completion := some (bufferDone c .tx gone gone.pass .done r.folded n) } :: post },
            r.window.toList) := by
        have hgone : ({ ch with groups := gs, moved := ch.moved + 1, list := gone :: post } : Channel).finished gone = true := by
          have hquiet : ({ ch with groups := gs, moved := ch.moved + 1, list := gone :: post } : Channel).inFlight gone = 0 := by
            rw [Channel.inFlight, List.length_eq_zero_iff, List.filter_eq_nil_iff]
            exact fun q hq => by simpa using hflight q hq
          have hall : gone.frames ≤ gone.pass.finished := hlast.ge
          have hstand : gone.state = .draining := hstate
          have hended' : gone.ended = [] := hended
          simp only [Channel.finished, hstand, hquiet, hended', decide_eq_true hall]
          simp
        have hothers' (x : BufferRecord) (hx : x ∈ post) : x ∈ ch.list := by
          rw [hl]
          exact List.mem_cons_of_mem _ hx
        have hpasses (x : BufferRecord) (hx : x ∈ gone :: post) : ∀ p ∈ x.ended, x.passDone ch.cfg.dir p = false := by
          rcases List.mem_cons.mp hx with rfl | hx
          · exact fun p hp => absurd hp (by rw [show gone.ended = [] from hended]; exact List.not_mem_nil)
          · exact hset.passes x (hothers' x hx)
        have hfin (x : BufferRecord) (hx : x ∈ post) :
            ({ ch with groups := gs, moved := ch.moved + 1, list := gone :: post } : Channel).finished x = false :=
          (Channel.finished_congr (a := ch) (b := { ch with groups := gs, moved := ch.moved + 1, list := gone :: post })
            hc hc rfl rfl x).trans (hset.records x (hothers' x hx))
        rw [Channel.settle_one (ch := { ch with groups := gs, moved := ch.moved + 1, list := gone :: post }) (older := [])
          (newer := post) (r := gone) hset.requests hpasses rfl
          hfin hgone
          (by rw [show gone.state = .draining from hstate]; rfl) c (n := n)
          (hn.trans (consumedIndex_congr (by rfl) _))]
        have hretire := gone.retire_formed (n := n) c .tx (.inl (by rw [show gone.state = .draining from hstate]; decide)) (.inl hnotify)
        rw [List.nil_append, show ({ ch with groups := gs, moved := ch.moved + 1, list := gone :: post } : Channel).cfg.dir = .tx
          from hdir, hretire, show gone.finalStatus = .done from hstatus, List.dropWhile_cons_of_neg (by simp [BufferRecord.gone])]
      rw [← hn, List.nil_append]
      refine ⟨_, _, rfl, State.update_only _ _ c _ rfl, ?_, rfl⟩
      rw [State.update_eq hr hsettle (Channel.closeDone_of_not_closing hc)]
      show (State.letGoAll _ _).chan c = _
      rw [State.letGoAll_chan, State.setChan_chan_same]

end Sys2Proof.Proofs
end

section
/-! PROOFS. A close that is taken, and the end of a close (R49 to R54, R100). -/

set_option Elab.async false

namespace Sys2Proof.Machine

/-! ## The end of a close (R54) -/

section
variable {s : State} {c : ChanId}

theorem Channel.closeDone_iff (ch : Channel) : ch.closeDone = true ↔
    ch.state = .closing ∧ ch.requests = [] ∧ ch.descRead = .none ∧ ch.groups = [] ∧ ch.list = [] := by
  simp [Channel.closeDone, and_assoc]

theorem State.exec_closeEnd (s : State) (c : ChanId) : exec (.closeEnd c) s = .next (s.endClose c) := rfl

theorem State.endClose_done (hd : (s.chan c).closeDone = true) (hr : s.device.state ≠ .resetting) :
    s.endClose c = (s.finishClose c).grantWaiting := if_pos ⟨hd, hr⟩

theorem State.endClose_left (hd : (s.chan c).closeDone = false) : s.endClose c = s := if_neg (by simp [hd])

/-- While RUNNING the report enters its reservation, and the ring's window is let go. -/
theorem State.finishClose_running (hr : s.device.state = .running) {w : WinId} (hw : (s.chan c).ringWindow = some w) {mode : CloseMode}
    {tag : U32} (hrec : (s.chan c).closeRec = some { mode := mode, tag := tag }) :
    s.finishClose c = ({ s with
      windows := s.windows.set w.val { s.window w with use := (s.window w).use - 1 }
      chans := s.chans.set c.val (s.chan c).ended } : State).withDone (closeDoneOf c (s.chan c) tag) := by
  rw [State.finishClose_eq, hw, hrec]
  exact State.formDone_eq _ _ hr

/-- The channel that goes back, as it stands then, outside RESETTING: settled, and CLOSED exactly where nothing of it is left. -/
theorem State.update_closing (hr : s.device.state ≠ .resetting) (x : Channel × List WinId) :
    ((s.update c x).chan c = (x.1.settle c).1)
    ∨ ((x.1.settle c).1.closeDone = true ∧ (s.update c x).chan c = (x.1.settle c).1.ended) := by
  cases hd : (x.1.settle c).1.closeDone
  · refine .inl ?_
    rw [State.update_eq (x := x.1) (ch := (x.1.settle c).1) (vs := (x.1.settle c).2) hr rfl hd]
    show (State.letGoAll _ _).chan c = _
    rw [State.letGoAll_chan, State.setChan_chan_same]
  · rcases s.update_chan c x with ⟨h, -⟩ | ⟨-, h | h⟩
    · exact absurd h hr
    · exact .inl h
    · exact .inr ⟨rfl, h⟩

end

/-! ## What a close leaves of its channel (R49 to R52, R100) -/

/-- Every record of the first channel stands in the second, with its state and status. -/
def Channel.Carries (a b : Channel) : Prop :=
  ∀ x ∈ a.list, ∃ y ∈ b.list, y.ring = x.ring ∧ y.state = x.state ∧ y.finalStatus = x.finalStatus

theorem Channel.Carries.refl (a : Channel) : a.Carries a := fun x hx => ⟨x, hx, rfl, rfl, rfl⟩

theorem Channel.Carries.trans {a b c : Channel} (h : a.Carries b) (k : b.Carries c) : a.Carries c := fun x hx => by
  obtain ⟨y, hy, hr, hs, hf⟩ := h x hx
  obtain ⟨z, hz, hr', hs', hf'⟩ := k y hy
  exact ⟨z, hz, hr'.trans hr, hs'.trans hs, hf'.trans hf⟩

theorem Channel.Carries.mapPass (ch : Channel) (ring : U16) (n : Nat) (f : Pass → Pass) : ch.Carries (ch.mapPass ring n f) :=
  fun x hx => by
    refine ⟨_, List.mem_map_of_mem hx, ?_⟩
    dsimp only
    unfold BufferRecord.mapPass
    split
    · split <;> exact ⟨rfl, rfl, rfl⟩
    · exact ⟨rfl, rfl, rfl⟩

theorem Channel.Carries.mapSource (ch : Channel) (src : Option Source) (f : Pass → Pass) : ch.Carries (ch.mapSource src f) := by
  cases src with
  | none => exact .refl ch
  | some x => exact .mapPass ch _ _ _

theorem Channel.Carries.discard (ch : Channel) (atHalt : Bool) : ch.Carries (ch.discard atHalt) := by
  have hfold (gs : List Group) (a : Channel) : a.Carries (gs.foldl (fun c g => c.mapSource g.source Pass.finishOne) a) := by
    induction gs generalizing a with
    | nil => exact .refl a
    | cons g gs ih => exact (Channel.Carries.mapSource a _ _).trans (ih _)
  unfold Channel.discard
  dsimp only
  split
  · exact .refl ch
  · exact hfold ch.groups ch

theorem Channel.Carries.endRequest (ch : Channel) (q : DataRequest) : ch.Carries (ch.endRequest q) := by
  unfold Channel.endRequest
  dsimp only
  split
  · exact .refl ch
  · split
    · exact .refl ch
    · exact .mapPass _ _ _ _

theorem Channel.Carries.reap (ch : Channel) : ch.Carries ch.reap := by
  have hfold (qs : List DataRequest) (a : Channel) :
      a.Carries (qs.foldl (fun c q => if q.over then c.endRequest q else c) a) := by
    induction qs generalizing a with
    | nil => exact .refl a
    | cons q qs ih =>
      refine Channel.Carries.trans ?_ (ih _)
      dsimp only
      split
      · exact .endRequest a q
      · exact .refl a
  exact hfold ch.requests ch

theorem List.mem_dropWhile_of_not {α : Type} {p : α → Bool} {l : List α} {a : α} (ha : a ∈ l) (hp : p a = false) :
    a ∈ l.dropWhile p := by
  induction l with
  | nil => cases ha
  | cons x xs ih =>
    rcases List.mem_cons.mp ha with rfl | ha
    · rw [List.dropWhile_cons_of_neg (by simp [hp])]
      exact List.mem_cons_self
    · rw [List.dropWhile_cons]
      split
      · exact ih ha
      · exact List.mem_cons_of_mem _ ha

/-- A settling changes each record on its own: its passes leave, and it may retire. -/
theorem Channel.settle_list (ch : Channel) (c : ChanId) : ∃ g : BufferRecord → BufferRecord,
    (ch.settle c).1.list = (ch.reap.list.map g).dropWhile BufferRecord.gone
      ∧ ∀ r, (∃ before after, g r = (r.passesLeave c ch.reap.cfg.dir before).retire c ch.reap.cfg.dir after)
        ∨ ∃ before, g r = r.passesLeave c ch.reap.cfg.dir before := by
  refine ⟨_, rfl, fun r => ?_⟩
  dsimp only
  split
  · exact .inl ⟨_, _, rfl⟩
  · exact .inr ⟨_, rfl⟩

/-- A record that a close or a halt has given its status keeps it until its completion is delivered. -/
theorem Channel.settle_keeps_status (ch : Channel) (c : ChanId) {x : BufferRecord} (hx : x ∈ ch.list) (hs : x.state ≠ .retiring)
    (hf : x.finalStatus ≠ .done) :
    ∃ y ∈ (ch.settle c).1.list, y.ring = x.ring ∧ y.finalStatus = x.finalStatus ∧ (y.state = x.state ∨ y.state = .retiring) := by
  obtain ⟨z, hz, hring, hstate, hstatus⟩ := Channel.Carries.reap ch x hx
  obtain ⟨g, hlist, hg⟩ := ch.settle_list c
  rw [← hstate] at hs
  rw [← hstatus] at hf
  have hval : (g z).ring = z.ring ∧ (g z).finalStatus = z.finalStatus ∧ ((g z).state = z.state ∨ (g z).state = .retiring)
      ∧ (g z).gone = false := by
    rcases hg z with ⟨before, after, h⟩ | ⟨before, h⟩
    · have houtcome : (z.passesLeave c ch.reap.cfg.dir before).outcome = z.finalStatus := if_neg fun k => hf k.2
      have hformed : ((z.passesLeave c ch.reap.cfg.dir before).retire c ch.reap.cfg.dir after).completion.isNone = false := by
        simp only [BufferRecord.retire, houtcome]
        rw [if_pos (by simp [hf])]
        rfl
      rw [h]
      exact ⟨rfl, houtcome, .inr rfl, by rw [BufferRecord.gone, hformed]; simp⟩
    · have hstay : (z.state == .retiring) = false := by simpa using hs
      rw [h]
      refine ⟨rfl, rfl, .inl rfl, ?_⟩
      show (z.state == .retiring && _ && _) = false
      rw [hstay]
      rfl
  obtain ⟨h1, h2, h3, h4⟩ := hval
  exact ⟨g z, hlist ▸ List.mem_dropWhile_of_not (List.mem_map_of_mem hz) h4, h1.trans hring, h2.trans hstatus,
    h3.imp (fun h => h.trans hstate) id⟩

/-- Without a request no frame is counted (R73). -/
theorem Channel.settle_counters {ch : Channel} (h : ch.requests = []) (c : ChanId) :
    (ch.settle c).1.moved = ch.moved ∧ (ch.settle c).1.lost = ch.lost := by
  have hreap : ch.reap = ch := ch.reap_quiet (by simp [h])
  unfold Channel.settle
  rw [hreap]
  exact ⟨rfl, rfl⟩

theorem Channel.mapSource_fetch (ch : Channel) (src : Option Source) (f : Pass → Pass) : (ch.mapSource src f).fetch = ch.fetch := by
  cases src <;> rfl

theorem Channel.discard_fetch (ch : Channel) (atHalt : Bool) : (ch.discard atHalt).fetch = ch.fetch := by
  have hfold (gs : List Group) (a : Channel) : (gs.foldl (fun c g => c.mapSource g.source Pass.finishOne) a).fetch = a.fetch := by
    induction gs generalizing a with
    | nil => rfl
    | cons g gs ih => exact (ih _).trans (a.mapSource_fetch _ _)
  unfold Channel.discard
  dsimp only
  split
  · rfl
  · exact hfold ch.groups ch

section
variable {ch : Channel}

theorem Channel.closeBy_fetch (mode : CloseMode) (hs : ch.state = .closing) : (ch.closeBy mode).fetch = ch.fetch := by
  unfold Channel.closeBy
  split
  · exact ch.discard_fetch _
  · exact ch.discard_fetch _
  · split
    · exact ch.discard_fetch _
    · unfold Channel.passEnd
      split
      · rfl
      · split
        · rfl
        · rw [if_pos (by exact hs), Channel.flushFull, Channel.discard_fetch]
          rfl

/-- The channel as a close leaves it before the mode's treatment: what is outstanding absorbed, what had not begun released. -/
def Channel.closed (ch : Channel) (mode : CloseMode) (tag : U32) : Channel := (ch.closing mode tag).absorbAll.release.1

theorem Channel.close_fst (mode : CloseMode) (tag : U32) : (ch.close mode tag).1 = (ch.closed mode tag).closeBy mode := rfl

theorem Channel.absorbAll_descRead_none : ch.absorbAll.descRead = .none ↔ ch.descRead = .none := by
  unfold Channel.absorbAll
  cases ch.descRead <;> simp

theorem Channel.absorbAll_descRead (ch : Channel) : ch.absorbAll.descRead ≠ .outstanding := by
  unfold Channel.absorbAll
  cases ch.descRead <;> simp

/-- The modes that discard the FIFO at once (R51, R52). -/
theorem Channel.closeBy_discards {mode : CloseMode} (h : mode = .abort ∨ ch.cfg.dir = .tx ∨ ch.current? = none) :
    ∃ f : BufferRecord → BufferRecord, ch.closeBy mode = (ch.discard false).mapRecords f := by
  have hid (x : Channel) : x = x.mapRecords id := by simp [Channel.mapRecords]
  unfold Channel.closeBy
  split
  · exact ⟨_, rfl⟩
  · exact ⟨_, rfl⟩
  · next hd =>
    rw [hd] at h
    rw [h.resolve_left (by decide) |>.resolve_left (by decide)]
    exact ⟨id, hid _⟩

/-- A mode that ends the begun records gives them its status (R51, R52). -/
theorem Channel.closeBy_ends {mode : CloseMode} {st : Status}
    (h : mode = .abort ∧ st = .aborted ∨ mode = .graceful ∧ ch.cfg.dir = .tx ∧ st = .partialFrames) :
    ch.closeBy mode = (ch.discard false).endBegun st := by
  rcases h with ⟨rfl, rfl⟩ | ⟨rfl, hd, rfl⟩
  · rfl
  · unfold Channel.closeBy
    rw [hd]

/-- A close of a channel that holds nothing. -/
theorem Channel.close_empty (hl : ch.list = []) (hq : ch.requests = []) (hd : ch.descRead = .none) (hg : ch.groups = [])
    (mode : CloseMode) (tag : U32) : ch.close mode tag = ({ ch with
      state := .closing, haltCause := none, closeRec := some { mode := mode, tag := tag }, idleFrame := none, gapMark := false },
      []) := by
  have habsorb : (ch.closing mode tag).absorbAll = ch.closing mode tag := by
    simp [Channel.absorbAll, Channel.closing, hq, hd]
  have hrelease : (ch.closing mode tag).release = (ch.closing mode tag, []) := by
    simp [Channel.release, Channel.closing, hl]
  have hdiscard : (ch.closing mode tag).discard false = { ch.closing mode tag with idleFrame := none, gapMark := false } := by
    unfold Channel.discard
    cases hdir : (ch.closing mode tag).cfg.dir <;> simp [Channel.closing, hg, addCount]
  have hcur : (ch.closing mode tag).current? = none := by simp [Channel.current?, Channel.closing, hl]
  have hby : (ch.closing mode tag).closeBy mode = (ch.closing mode tag).discard false := by
    obtain ⟨f, hf⟩ := Channel.closeBy_discards (ch := ch.closing mode tag) (mode := mode) (.inr (.inr hcur))
    rw [hf, hdiscard]
    simp [Channel.mapRecords, Channel.closing, hl]
  rw [Channel.close_eq, habsorb, hrelease, hby, hdiscard]
  rfl

end

end Sys2Proof.Machine

namespace Sys2Proof.Proofs
open Sys2Proof.Machine

/-- Settles O17: the end of a close is one change of the channel, its window and the report. -/
theorem closeEndReportsFinalCounters : Obligations.CloseEndReportsFinalCounters := by
  unfold Obligations.CloseEndReportsFinalCounters
  intro s c w hr hw ch report freed left
  have hnr : s.device.state ≠ .resetting := by rw [hr]; decide
  refine ⟨fun mode tag hst hrec hleft => ?_, fun hno => ?_, fun r ht hk hc hz hopen hmode hleft => ?_⟩
  · intro ended grants
    have hend : s.endClose c = ended.grantWaiting := by
      rw [State.endClose_done ((Channel.closeDone_iff _).mpr ⟨hst, hleft⟩) hnr, State.finishClose_running hr hw hrec]
      rfl
    rw [State.exec_closeEnd, hend]
    exact ⟨fun h => congrArg Host.Outcome.next (ended.grantWaiting_waits h),
      fun h => congrArg Host.Outcome.next (ended.grantWaiting_granted hr h.1 h.2)⟩
  · rw [State.exec_closeEnd, State.endClose_left]
    exact Bool.eq_false_iff.mpr fun h => hno ((Channel.closeDone_iff _).mp h)
  · obtain ⟨hq, hdesc, hgroups, hlist⟩ := hleft
    have hzero : reservedZero .closeChannel r = true := (reservedZero_bytes .closeChannel r (by decide)).mpr hz
    obtain ⟨mode, hm, href⟩ : ∃ mode, closeModeOf (byteAt r 17) = some mode ∧ s.closeRefusal c mode = none := by
      rcases hmode with h | ⟨h, hn⟩
      · exact ⟨_, closeModeOf_abort h, (State.closeRefusal_open hopen).trans (if_neg (by simp))⟩
      · exact ⟨_, closeModeOf_graceful h, (State.closeRefusal_open hopen).trans
          (if_neg fun k => hn ((s.named_iff c).mp k.2))⟩
    obtain ⟨x, hx⟩ : ∃ x : Channel, x = { ch with
      state := .closing, closeRec := some { mode := mode, tag := cmdTag r }, haltCause := none, idleFrame := none,
      gapMark := false, consumed := ch.fetch } := ⟨_, rfl⟩
    have hsettle : (ch.close mode (cmdTag r)).1.settle c = (x, []) := by
      rw [Channel.close_empty hlist hq hdesc hgroups, Channel.settle_quiet _ (by simp [hq]) (by simp [hlist]) (by simp [hlist])]
      simp [hlist, hx, consumedIndex]
    obtain ⟨u, hu⟩ : ∃ u : State, u = { s with
        chans := s.chans.set c.val x
        port := (s.port.setWaitData ch.cfg.priority c false).setWaitDesc c false } := ⟨_, rfl⟩
    have hpresent : (s.setChan c x).present c = u := by
      have hdata (n : Nat) : x.wantsData n = false := by
        rw [hx]
        simp [Channel.wantsData, Channel.formation, Channel.wantsFirst, Channel.current?, hq, hlist]
      have hdescRead : x.wantsDesc = false := by
        rw [hx]
        simp [Channel.wantsDesc, Channel.flowing]
      simp only [State.present, State.setChan_chan_same, hdata, hdescRead, Bool.false_and, hu]
      rw [hx]
      rfl
    have hupdate : s.update c (ch.close mode (cmdTag r)) = ({ s with
        windows := freed
        chans := s.chans.set c.val x.ended
        port := (s.port.setWaitData ch.cfg.priority c false).setWaitDesc c false } : State).withDone
          (report (cmdTag r) ch.fetch) := by
      have hback : u.chan c = x := by
        rw [← hpresent]
        exact State.setChan_chan_same s c x
      have hrun : u.device.state = .running := by rw [hu]; exact hr
      have hdone : (u.chan c).closeDone = true := by
        rw [hback, Channel.closeDone_iff, hx]
        exact ⟨rfl, hq, hdesc, hgroups, hlist⟩
      have hring : (u.chan c).ringWindow = some w := by
        rw [hback, hx]
        exact hw
      have hrec : (u.chan c).closeRec = some { mode := mode, tag := cmdTag r } := by rw [hback, hx]
      have hput : s.update c (ch.close mode (cmdTag r)) = u.endClose c := by
        unfold State.update
        rw [if_neg hnr, hsettle, Channel.close_empty hlist hq hdesc hgroups, ← hpresent]
        rfl
      have htaking : (u.finishClose c).cmd.state = .taking := by
        rw [State.finishClose_running hrun hring hrec, hu]
        exact ht.taking
      rw [hput, State.endClose_done hdone (by rw [hrun]; decide),
        State.grantWaiting_waits _ (fun k => by rw [htaking] at k; exact absurd k.1 (by decide)),
        State.finishClose_running hrun hring hrec, hback, hu]
      simp only [Vector.set_set]
      rw [hx]
      rfl
    rw [ht.exec_closeChannel hk]
    refine congrArg Host.Outcome.next ?_
    rw [State.closeChannel_taken hc hzero hm href, show (s.chan c).close mode (cmdTag r) = ch.close mode (cmdTag r) from rfl,
      hupdate, State.finishTaking_eq, hx]
    rfl

/-- Settles O16: the close, the settling and the end of the close, each on this channel alone. -/
theorem closeChannelTaken : Obligations.CloseChannelTaken := by
  unfold Obligations.CloseChannelTaken
  intro s r c ht hk hc hz hopen mode hmode
  have hzero : reservedZero .closeChannel r = true := (reservedZero_bytes .closeChannel r (by decide)).mpr hz
  obtain ⟨hm, href⟩ : closeModeOf (byteAt r 17) = some mode ∧ s.closeRefusal c mode = none := by
    rcases hmode with ⟨rfl, h, hn⟩ | ⟨rfl, h⟩
    · exact ⟨closeModeOf_graceful h, (State.closeRefusal_open hopen).trans (if_neg fun k => hn ((s.named_iff c).mp k.2))⟩
    · exact ⟨closeModeOf_abort h, (State.closeRefusal_open hopen).trans (if_neg (by simp))⟩
  refine ⟨s.update c ((s.chan c).close mode (cmdTag r)), ?_, State.update_only _ _ c _ rfl, ?_⟩
  · rw [ht.exec_closeChannel hk, State.closeChannel_taken hc hzero hm href, State.finishTaking_eq]
  · intro ch t
    have hkept := (ch.closed mode (cmdTag r)).closeBy_kept mode rfl
    obtain ⟨hsame, hreqs, hstates⟩ := ((ch.closed mode (cmdTag r)).closeBy mode).settle_spec c
    obtain ⟨y, hy⟩ : ∃ y, y = (((ch.closed mode (cmdTag r)).closeBy mode).settle c).1 := ⟨_, rfl⟩
    have hnr : s.device.state ≠ .resetting := by rw [ht.running]; decide
    have hback := State.update_closing (c := c) hnr (ch.close mode (cmdTag r))
    rw [Channel.close_fst, ← hy] at hback
    rw [← hy] at hsame hreqs hstates
    have hty : t = { y with state := t.state, closeRec := t.closeRec } := by
      rcases hback with h | ⟨-, h⟩ <;> rw [show t = _ from h] <;> rfl
    have hlist : t.list = y.list := (congrArg Channel.list hty).trans rfl
    have hfetch : t.fetch = (ch.closed mode (cmdTag r)).fetch :=
      (congrArg Channel.fetch hty).trans (hsame.fetch.trans (Channel.closeBy_fetch mode rfl))
    have hdesc : t.descRead = (ch.closing mode (cmdTag r)).absorbAll.descRead :=
      (congrArg Channel.descRead hty).trans (hsame.descRead.trans hkept.descRead)
    refine ⟨?_, ?_, fun x hx => ?_, fun hnone => ?_, fun st hst x hx hbegun hdone => ?_, ?_, ?_, ?_, fun x hx => ?_, fun q hq => ?_, ?_,
      ?_, fun hdrop => ?_⟩
    · rcases hback with h | ⟨hdone, h⟩
      · rw [show t = y from h]
        exact .inl ⟨hsame.state.trans hkept.state, hsame.closeRec.trans hkept.closeRec⟩
      · obtain ⟨-, hq, hd, hg, hl⟩ := (Channel.closeDone_iff y).mp hdone
        rw [show t = y.ended from h]
        exact .inr ⟨rfl, rfl, hl, hg, hq, hd⟩
    · exact (congrArg Channel.ringWindow hty).trans (hsame.ringWindow.trans hkept.ringWindow)
    · rw [hfetch]
      show (match (ch.list.filter BufferRecord.untouched).head? with
        | some r => r.ring
        | none => ch.fetch) = _
      rw [hx]
    · rw [hfetch]
      show (match (ch.list.filter BufferRecord.untouched).head? with
        | some r => r.ring
        | none => ch.fetch) = _
      rw [List.filter_eq_nil_iff.mpr fun x hx => by simp [hnone x hx]]
      rfl
    · have hheld : x ∈ (ch.closed mode (cmdTag r)).list := by
        refine List.mem_filter.mpr ⟨hx, ?_⟩
        rcases hbegun with h | h <;> simp [BufferRecord.untouched, RecState.isPoisoned, h]
      obtain ⟨z, hz, hring, hstate, hstatus⟩ := Channel.Carries.discard _ false x hheld
      have hzbegun : z.begun = true := by
        rcases hbegun with h | h <;> simp [BufferRecord.begun, hstate, h]
      have hmem : z.setFinal st ∈ ((ch.closed mode (cmdTag r)).closeBy mode).list := by
        rw [Channel.closeBy_ends (ch := ch.closed mode (cmdTag r)) hst]
        exact List.mem_map.mpr ⟨z, hz, if_pos hzbegun⟩
      have hgiven : (z.setFinal st).finalStatus = st := if_pos (hstatus.trans hdone)
      have hzs : (z.setFinal st).state = x.state := hstate
      have hst' : st ≠ .done := by rcases hst with ⟨-, rfl⟩ | ⟨-, -, rfl⟩ <;> decide
      obtain ⟨w, hw, hwring, hwstatus, hwstate⟩ := Channel.settle_keeps_status _ c hmem
        (by rw [hzs]; rcases hbegun with h | h <;> rw [h] <;> decide) (by rw [hgiven]; exact hst')
      refine ⟨w, by rw [hlist, hy]; exact hw, hwring.trans hring, hwstatus.trans hgiven, ?_⟩
      rwa [hzs] at hwstate
    · exact (congrArg Channel.config hty).trans (hsame.config.trans hkept.config)
    · exact (congrArg Channel.haltCause hty).trans (hsame.haltCause.trans hkept.haltCause)
    · exact (congrArg Channel.producer hty).trans (hsame.producer.trans hkept.producer)
    · have hbegun (z : RecState) (hz : z ∈ (ch.closed mode (cmdTag r)).list.map BufferRecord.state) :
          z ≠ .next ∧ ∀ why, z ≠ .poisoned why := by
        obtain ⟨w, hw, rfl⟩ := List.mem_map.mp hz
        have hu : w.untouched = false := by simpa using (List.mem_filter.mp hw).2
        constructor
        · exact fun h => by simp [BufferRecord.untouched, h] at hu
        · exact fun why h => by simp [BufferRecord.untouched, RecState.isPoisoned, h] at hu
      rcases hstates x (hlist ▸ hx) with h | h
      · rw [h]
        exact ⟨nofun, nofun⟩
      · obtain ⟨w, hw, hws⟩ := List.mem_map.mp h
        rw [← hws]
        rcases hkept.list w hw with h | h
        · rw [h]
          exact ⟨nofun, nofun⟩
        · exact hbegun _ h
    · obtain ⟨hin, -⟩ := hreqs q ((congrArg Channel.requests hty) ▸ hq)
      rw [hkept.requests] at hin
      obtain ⟨z, -, rfl⟩ := List.mem_map.mp hin
      rfl
    · rw [hdesc, Channel.absorbAll_descRead_none]
      rfl
    · rw [hdesc]
      exact Channel.absorbAll_descRead _
    · have hdrop' : mode = .abort ∨ (ch.closed mode (cmdTag r)).cfg.dir = .tx ∨ (ch.closed mode (cmdTag r)).current? = none := by
        refine hdrop.imp id (Or.imp id fun h => List.find?_eq_none.mpr fun z hz => ?_)
        exact List.find?_eq_none.mp h z (List.mem_filter.mp hz).1
      obtain ⟨f, hf⟩ := Channel.closeBy_discards hdrop'
      obtain ⟨hg, hi, hm, hrx, htx⟩ := (ch.closed mode (cmdTag r)).discard_counts
      have hsame' : y.SameBut ((ch.closed mode (cmdTag r)).discard false) := by
        rw [hf] at hsame
        exact hsame.trans (Channel.mapRecords_same _ f)
      refine ⟨(congrArg Channel.groups hty).trans (hsame'.groups.trans hg),
        (congrArg Channel.idleFrame hty).trans (hsame'.idleFrame.trans hi),
        (congrArg Channel.gapMark hty).trans (hsame'.gapMark.trans hm), fun hq => ?_⟩
      have hnone : ((ch.closed mode (cmdTag r)).closeBy mode).requests = [] := by
        rw [hkept.requests]
        exact List.map_eq_nil_iff.mpr hq
      obtain ⟨hmoved, hlost⟩ := Channel.settle_counters hnone c
      rw [← hy] at hmoved hlost
      have hlost' : t.lost = ((ch.closed mode (cmdTag r)).discard false).lost :=
        (congrArg Channel.lost hty).trans (hlost.trans ((congrArg Channel.lost hf).trans rfl))
      have hdisc : t.discarded = ((ch.closed mode (cmdTag r)).discard false).discarded :=
        (congrArg Channel.discarded hty).trans hsame'.discarded
      exact ⟨(congrArg Channel.moved hty).trans (hmoved.trans hkept.moved),
        fun hd => ⟨hlost'.trans (hrx hd).1, hdisc.trans (hrx hd).2⟩, fun hd => ⟨hlost'.trans (htx hd).1, hdisc.trans (htx hd).2⟩⟩

end Sys2Proof.Proofs
end

section
/-! PROOFS. The response to a data transaction that was answered OKAY (R53, R73, R76, R78, R91 to R96). -/

set_option Elab.async false

namespace Sys2Proof.Machine

/-! ## The request that a response belongs to -/

/-- A request with one more transaction answered. -/
def DataRequest.took (q : DataRequest) (ok : Bool) : DataRequest := { q with answered := q.answered + 1, error := q.error || !ok }

theorem DataRequest.over_iff (q : DataRequest) : q.over = true ↔ q.answered = q.issued ∧ (q.issued = q.lanes ∨ q.cut = true) := by
  simp [DataRequest.over]

theorem Transaction.OfRequest.dataRef {t : Transaction} {c : ChanId} {id : Nat} (h : t.OfRequest c id) :
    ∃ lane, t.dataRef = some (c, id, lane) := by
  obtain ⟨hc, -, lane, href⟩ := h
  exact ⟨lane, by simp only [Transaction.dataRef, hc, href]⟩

section
variable {ch : Channel} {before after : List DataRequest} {q : DataRequest}

theorem Channel.Splits.find (h : ch.Splits before q after) : (ch.requests.find? fun x => x.id == q.id) = some q := by
  obtain ⟨hq, hids⟩ := h
  have hnone : (before.find? fun x => x.id == q.id) = none :=
    List.find?_eq_none.mpr fun x hx => by simpa using hids x (List.mem_append_left _ hx)
  rw [hq, List.find?_append, hnone, Option.none_or, List.find?_cons_of_pos (by simp)]

theorem Channel.Splits.mem (h : ch.Splits before q after) {x : DataRequest} (hx : x ∈ before ++ after) : x ∈ ch.requests := by
  rw [h.1]
  rcases List.mem_append.mp hx with hx | hx <;> simp [hx]

theorem Channel.Splits.answer (h : ch.Splits before q after) (ok : Bool) :
    ch.answer q.id ok = { ch with requests := before ++ q.took ok :: after } := by
  obtain ⟨hq, hids⟩ := h
  have hid (l : List DataRequest) (hl : ∀ x ∈ l, x.id ≠ q.id) :
      (l.map fun x => if x.id = q.id then { x with answered := x.answered + 1, error := x.error || !ok } else x) = l :=
    (List.map_congr_left fun x hx => if_neg (hl x hx)).trans (List.map_id' l)
  simp only [Channel.answer, hq, List.map_append, List.map_cons, if_pos]
  rw [hid before fun x hx => hids x (List.mem_append_left _ hx), hid after fun x hx => hids x (List.mem_append_right _ hx)]
  rfl

theorem Channel.Splits.dataResponse_okay (h : ch.Splits before q after) :
    ch.dataResponse q.id true = ({ ch with requests := before ++ q.took true :: after }, []) := by
  simp only [Channel.dataResponse, h.find, h.answer, if_true]

theorem Channel.Splits.answered (h : ch.Splits before q after) (ok : Bool) :
    ({ ch with requests := before ++ q.took ok :: after } : Channel).Splits before (q.took ok) after := ⟨rfl, h.2⟩

/-- Where one request is over, it alone ends. -/
theorem Channel.Splits.reap (h : ch.Splits before q after) (ho : ∀ x ∈ before ++ after, x.over = false) (hover : q.over = true) :
    ch.reap = ch.endRequest q := by
  have hid (l : List DataRequest) (hl : ∀ x ∈ l, x.over = false) (a : Channel) :
      (l.foldl (fun c x => if x.over then c.endRequest x else c) a) = a := by
    induction l with
    | nil => rfl
    | cons x l ih =>
      rw [List.foldl_cons, hl x List.mem_cons_self]
      exact ih fun y hy => hl y (List.mem_cons_of_mem _ hy)
  rw [Channel.reap, h.1, List.foldl_append, List.foldl_cons, hid before fun x hx => ho x (List.mem_append_left _ hx), hover,
    if_pos rfl, hid after fun x hx => ho x (List.mem_append_right _ hx)]

theorem Channel.Splits.filter (h : ch.Splits before q after) : (ch.requests.filter fun x => x.id != q.id) = before ++ after := by
  obtain ⟨hq, hids⟩ := h
  have hid (l : List DataRequest) (hl : ∀ x ∈ l, x.id ≠ q.id) : (l.filter fun x => x.id != q.id) = l :=
    List.filter_eq_self.mpr fun x hx => by simpa using hl x hx
  rw [hq, List.filter_append, List.filter_cons_of_neg (by simp), hid before fun x hx => hids x (List.mem_append_left _ hx),
    hid after fun x hx => hids x (List.mem_append_right _ hx)]

theorem Channel.Splits.endRequest_tx (h : ch.Splits before q after) (hd : ch.cfg.dir = .tx) :
    ch.endRequest q = { ch with requests := before ++ after } := by
  have hdir : ({ ch with requests := before ++ after } : Channel).cfg.dir = .tx := hd
  simp only [Channel.endRequest, h.filter, hdir]

theorem Channel.Splits.endRequest_lost (h : ch.Splits before q after) (hd : ch.cfg.dir = .rx)
    (hlost : ¬ (q.error = false ∧ q.cut = false)) :
    ch.endRequest q = { ch with requests := before ++ after, lost := ch.lost + BitVec.ofNat 32 q.count } := by
  have hdir : ({ ch with requests := before ++ after } : Channel).cfg.dir = .rx := hd
  have hbad : (q.error || q.cut) = true := by
    cases he : q.error <;> cases hc : q.cut <;> simp [he, hc] at hlost ⊢
  simp only [Channel.endRequest, h.filter, hdir, hbad, if_true]
  rfl

theorem Channel.Splits.endRequest_moved (h : ch.Splits before q after) (hd : ch.cfg.dir = .rx) (he : q.error = false)
    (hc : q.cut = false) : ch.endRequest q
      = ({ ch with requests := before ++ after, moved := ch.moved + BitVec.ofNat 32 q.count } : Channel).mapPass q.ring q.pass
          fun p => { p with answered := p.answered + q.count } := by
  have hdir : ({ ch with requests := before ++ after } : Channel).cfg.dir = .rx := hd
  simp only [Channel.endRequest, h.filter, hdir, he, hc, Bool.or_false, Bool.false_eq_true, if_false]
  rfl

/-- The last answer of a request ends it: its frames are moved where every answer was OKAY (R73, R78). -/
theorem Channel.Splits.reap_moved (h : ch.Splits before q after) (ho : ∀ x ∈ before ++ after, x.over = false)
    (hlast : q.answered + 1 = q.issued ∧ (q.issued = q.lanes ∨ q.cut = true)) (hd : ch.cfg.dir = .rx) (he : q.error = false)
    (hc : q.cut = false) : ({ ch with requests := before ++ q.took true :: after } : Channel).reap
      = ({ ch with requests := before ++ after, moved := ch.moved + BitVec.ofNat 32 q.count } : Channel).mapPass q.ring q.pass
          fun p => { p with answered := p.answered + q.count } := by
  rw [(h.answered true).reap ho ((DataRequest.over_iff _).mpr hlast),
    (h.answered true).endRequest_moved hd (by simpa [DataRequest.took] using he) hc]
  rfl

/-- The frames of a request with a lane in ERROR, or cut, are lost (R73, R78). -/
theorem Channel.Splits.reap_lost (h : ch.Splits before q after) (ho : ∀ x ∈ before ++ after, x.over = false)
    (hlast : q.answered + 1 = q.issued ∧ (q.issued = q.lanes ∨ q.cut = true)) (hd : ch.cfg.dir = .rx)
    (hlost : ¬ (q.error = false ∧ q.cut = false)) : ({ ch with requests := before ++ q.took true :: after } : Channel).reap
      = { ch with requests := before ++ after, lost := ch.lost + BitVec.ofNat 32 q.count } := by
  rw [(h.answered true).reap ho ((DataRequest.over_iff _).mpr hlast),
    (h.answered true).endRequest_lost hd fun ⟨he, hc⟩ => hlost ⟨by simpa [DataRequest.took] using he, hc⟩]
  rfl

theorem Channel.settle_reap (ch : Channel) (c : ChanId) : ch.reap.settle c = ch.settle c := by
  unfold Channel.settle
  rw [Channel.reap_quiet ch.reap ch.reap_quiet_after]

/-- The requests in flight of a record that the changed request does not belong to. -/
theorem Channel.Splits.inFlight_other {ch' : Channel} (h : ch.Splits before q after) {x : BufferRecord} (hx : x.ring ≠ q.ring)
    (h' : ch'.requests = before ++ after) : ch'.inFlight x = ch.inFlight x := by
  have hne : (q.ring == x.ring) = false := by simpa using Ne.symm hx
  rw [Channel.inFlight, Channel.inFlight, h', h.1, List.filter_append, List.filter_append, List.filter_cons_of_neg (by simp [hne])]

theorem Channel.Splits.inFlight_kept {ch' : Channel} {q' : DataRequest} (h : ch.Splits before q after) (hr : q'.ring = q.ring)
    (h' : ch'.requests = before ++ q' :: after) (x : BufferRecord) : ch'.inFlight x = ch.inFlight x := by
  rw [Channel.inFlight, Channel.inFlight, h', h.1, List.filter_append, List.filter_append, List.filter_cons, List.filter_cons, hr]
  split <;> simp

end

/-! ## What stays unfinished -/

section
variable {a b : Channel} {r r' : BufferRecord} {older newer : List BufferRecord}

theorem Channel.finished_same {x : BufferRecord} (hin : b.inFlight x = a.inFlight x) (hf : b.flushing = a.flushing)
    (ho : b.flushOver = a.flushOver) (hc : b.config = a.config) : b.finished x = a.finished x := by
  have hcfg : b.cfg = a.cfg := by simp only [Channel.cfg, hc]
  simp only [Channel.finished, hin, hf, ho, hcfg]

theorem Channel.flush_same (hs : b.state = a.state) (hr : b.closeRec = a.closeRec) (hg : b.groups = a.groups)
    (hc : b.config = a.config) : b.flushing = a.flushing ∧ b.flushOver = a.flushOver := by
  have hcfg : b.cfg = a.cfg := by simp only [Channel.cfg, hc]
  simp only [Channel.flushing, Channel.flushOver, hs, hr, hg, hcfg, and_self]

/-- A record in flight is not finished, whatever its outcome. -/
theorem Channel.finished_inFlight {ch : Channel} (h : ch.inFlight r ≠ 0) (hs : r.state = .current ∨ r.state = .draining ∨ r.state = .ending) :
    ch.finished r = false := by
  have hzero : (ch.inFlight r == 0) = false := by simpa using h
  rcases hs with hs | hs | hs <;> simp [Channel.finished, hs, hzero]

/-- The CURRENT record of an open channel is not finished while nothing has given it a status. -/
theorem Channel.finished_open {ch : Channel} (hr : r.state = .current) (hc : ch.state ≠ .closing) (hf : r.finalStatus = .done) :
    ch.finished r = false := by
  have hno : (ch.state == .closing) = false := by simpa using hc
  simp [Channel.finished, hr, hf, Channel.flushOver, hno]

/-- Nor is the CURRENT record of a flush with groups left (R50). -/
theorem Channel.finished_flushing {ch : Channel} (hr : r.state = .current) (hc : ch.state = .closing)
    (hm : ch.closeRec.map CloseRecord.mode = some .graceful) (hd : ch.cfg.dir = .rx) (hg : ch.groups ≠ []) :
    ch.finished r = false := by
  have hg' : ch.groups.isEmpty = false := by simpa using hg
  simp [Channel.finished, hr, Channel.flushing, Channel.flushOver, hc, hm, hd, hg']

theorem Channel.inFlight_of_mem {ch : Channel} {q : DataRequest} (hq : q ∈ ch.requests) (hr : q.ring = r.ring) : ch.inFlight r ≠ 0 :=
  fun h => by
    have hnil := List.length_eq_zero_iff.mp h
    exact List.filter_eq_nil_iff.mp hnil q hq (by simpa using hr)

/-- A settled channel of which one record changes, without coming to its end. -/
theorem Channel.Settled.one_changed (h : a.Settled) (hal : a.list = older ++ r :: newer) (hbl : b.list = older ++ r' :: newer)
    (hsame : r'.state = r.state ∧ r'.ring = r.ring ∧ r'.completion = r.completion ∧ r'.passCpls = r.passCpls)
    (hq : ∀ q ∈ b.requests, q.over = false) (ho : ∀ x ∈ older ++ newer, b.finished x = a.finished x) (hr : b.finished r' = false)
    (hp : ∀ p ∈ r'.ended, r'.passDone b.cfg.dir p = false) (hc : b.config = a.config) (hf : b.fetch = a.fetch)
    (hn : b.consumed = a.consumed) : b.Settled := by
  obtain ⟨hstate, hring, hcpl, hpcs⟩ := hsame
  have hcfg : b.cfg = a.cfg := by simp only [Channel.cfg, hc]
  have hcases {P : BufferRecord → Prop} (hold : ∀ x ∈ older ++ newer, P x) (hnew : P r') : ∀ x ∈ b.list, P x := by
    intro x hx
    rw [hbl] at hx
    rcases List.mem_append.mp hx with hx | hx
    · exact hold x (List.mem_append_left _ hx)
    · rcases List.mem_cons.mp hx with rfl | hx
      · exact hnew
      · exact hold x (List.mem_append_right _ hx)
  have hmem (x : BufferRecord) (hx : x ∈ older ++ newer) : x ∈ a.list := by
    rw [hal]
    rcases List.mem_append.mp hx with hx | hx <;> simp [hx]
  refine ⟨hq, hcases (fun x hx => (ho x hx).trans (h.records x (hmem x hx))) hr,
    hcases (fun x hx p hp => hcfg ▸ h.passes x (hmem x hx) p hp) hp, fun x hx => ?_, ?_⟩
  · cases older with
    | nil =>
      rw [hbl] at hx
      cases Option.some.inj hx
      have hgone := h.oldest r (by rw [hal]; rfl)
      simpa only [BufferRecord.gone, hstate, hcpl, hpcs] using hgone
    | cons y ys =>
      rw [hbl] at hx
      exact h.oldest x (by rw [hal]; exact hx)
  · rw [hn, h.consumed, hf]
    refine consumedIndex_congr ?_ _
    rw [hal, hbl, List.map_append, List.map_append, List.map_cons, List.map_cons, BufferRecord.standing, BufferRecord.standing,
      hstate, hring]

theorem Channel.closeDone_of_list (hl : a.list = older ++ r :: newer) : a.closeDone = false :=
  Bool.eq_false_iff.mpr fun h => by
    obtain ⟨-, -, -, -, hnil⟩ := (Channel.closeDone_iff a).mp h
    rw [hl] at hnil
    exact absurd hnil (by simp)

/-- The pass that a frame belongs to has been folded into its record (R95). -/
theorem Channel.mapPass_folded {ch : Channel} {ring : U16} {n : Nat} (hl : ch.list = older ++ r :: newer) (hr : r.ring = ring)
    (ho : ∀ x ∈ older ++ newer, x.ring ≠ ring) (hn : r.pass.count ≠ n) (he : r.ended = []) (f : Pass → Pass) :
    ch.mapPass ring n f = ch := by
  subst hr
  have hpass : r.mapPass n f = r := by
    rw [BufferRecord.mapPass, if_neg hn, he, List.map_nil, ← he]
  simp only [Channel.mapPass, Channel.mapRecord, Channel.mapRecords, map_ring_of_split (fun x => x.mapPass n f) hl ho, hpass, ← hl]

end

/-! ## Ended passes (R88, R94) -/

section
variable {ch : Channel} {older newer : List BufferRecord} {r : BufferRecord} {first later : List Pass} {p : Pass}

/-- Where no request and no record ends, the passes that are complete leave. -/
theorem Channel.settle_passes (hrequests : ∀ q ∈ ch.requests, q.over = false)
    (hrecords : ∀ r ∈ ch.list, ch.finished (r.keepPasses ch.cfg.dir) = false) (c : ChanId) {n : U16}
    (hn : n = consumedIndex ch.list ch.fetch) :
    ch.settle c = ({ ch with
      list := (ch.list.map fun r => r.passesLeave c ch.cfg.dir n).dropWhile BufferRecord.gone, consumed := n }, []) := by
  have hfin : (ch.list.map fun x => x.keepPasses ch.cfg.dir).filter ch.finished = [] := by
    rw [List.filter_eq_nil_iff]
    intro x hx
    obtain ⟨y, hy, rfl⟩ := List.mem_map.mp hx
    simp [hrecords y hy]
  have hstay (f : BufferRecord → Bool) (hf : ∀ x, f x = true → ch.finished x = true) :
      consumedIndex ((ch.list.map fun x => x.keepPasses ch.cfg.dir).map fun x => if f x then { x with state := .retiring } else x)
        ch.fetch = n := by
    rw [hn, List.map_map]
    refine consumedIndex_congr ?_ _
    rw [List.map_map]
    refine List.map_congr_left fun x hx => ?_
    have hno : f (x.keepPasses ch.cfg.dir) = false :=
      Bool.eq_false_iff.mpr fun h => by simpa [hrecords x hx] using hf _ h
    simp only [Function.comp, hno]
    rfl
  have hlist (before : BufferRecord → U16) (hbefore : ∀ x, before x = n) (after : U16) : (ch.list.map fun x =>
      if ch.finished (x.keepPasses ch.cfg.dir)
        then (x.passesLeave c ch.cfg.dir (before x)).retire c ch.cfg.dir after else x.passesLeave c ch.cfg.dir (before x))
      = ch.list.map fun x => x.passesLeave c ch.cfg.dir n :=
    List.map_congr_left fun x hx => by rw [hrecords x hx, hbefore]; rfl
  unfold Channel.settle
  simp only [Channel.reap_quiet ch hrequests, hfin]
  rw [hlist _ (fun x => hstay _ fun y hy => (Bool.and_eq_true_iff.mp hy).1), hstay _ fun _ h => h]
  simp [Channel.leave, addCount]

theorem BufferRecord.mapPass_ended {n : Nat} (he : r.ended = first ++ p :: later) (hr : r.pass.count ≠ n) (hp : p.count = n)
    (ho : ∀ x ∈ first ++ later, x.count ≠ n) (f : Pass → Pass) :
    r.mapPass n f = { r with ended := first ++ f p :: later } := by
  have hid (l : List Pass) (hl : ∀ x ∈ l, x.count ≠ n) : (l.map fun x => if x.count = n then f x else x) = l :=
    (List.map_congr_left fun x hx => if_neg (hl x hx)).trans (List.map_id' l)
  rw [BufferRecord.mapPass, if_neg hr, he, List.map_append, List.map_cons, if_pos hp, hid first fun x hx => ho x (by simp [hx]),
    hid later fun x hx => ho x (by simp [hx])]

theorem insertPass_last {x : Nat × Completion} {l : List (Nat × Completion)} (h : ∀ y ∈ l, y.1 < x.1) : insertPass x l = l ++ [x] := by
  induction l with
  | nil => rfl
  | cons y l ih =>
    rw [insertPass, if_neg (by have := h y List.mem_cons_self; omega), ih fun z hz => h z (List.mem_cons_of_mem _ hz)]
    rfl

theorem insertPass_first {x : Nat × Completion} {l : List (Nat × Completion)} (h : ∀ y ∈ l, x.1 < y.1) : insertPass x l = x :: l := by
  cases l with
  | nil => rfl
  | cons y l => exact if_pos (h y List.mem_cons_self)

/-- One ended pass of the record is complete. -/
theorem BufferRecord.passesLeave_one {d : Direction} (he : r.ended = first ++ p :: later) (hp : r.passDone d p = true)
    (ho : ∀ x ∈ first ++ later, r.passDone d x = false) (c : ChanId) (n : U16) :
    r.passesLeave c d n = { r with
      ended := first ++ later
      passCpls := if r.notify then insertPass (p.count, bufferDone c d r p .done true n) r.passCpls else r.passCpls } := by
  have hleave : r.leavingPasses d = [p] := by
    rw [BufferRecord.leavingPasses, he]
    exact List.filter_of_split ho hp
  have hkeep : r.keepPasses d = { r with ended := first ++ later } := by
    have hall (l : List Pass) (hl : ∀ x ∈ l, r.passDone d x = false) : (l.filter fun x => !r.passDone d x) = l :=
      List.filter_eq_self.mpr fun x hx => by simp [hl x hx]
    rw [BufferRecord.keepPasses, he, List.filter_append, List.filter_cons_of_neg (by simp [hp]),
      hall first fun x hx => ho x (by simp [hx]), hall later fun x hx => ho x (by simp [hx])]
  simp only [BufferRecord.passesLeave, hleave, hkeep, List.foldl_cons, List.foldl_nil]

end

/-! ## A record that retires (R91, R101) -/

section
variable {ch : Channel} {older newer : List BufferRecord} {r : BufferRecord}

theorem BufferRecord.retire_with {st : Status} {n : U16} (c : ChanId) (d : Direction) (ho : r.outcome = st)
    (hn : r.notify = true ∨ st ≠ .done) : r.retire c d n = { r with
      state := .retiring
      window := none
      finalStatus := st
      completion := some (bufferDone c d r r.pass st r.folded n) } := by
  have hformed : (r.notify || st != .done) = true := by simpa using hn
  simp only [BufferRecord.retire, ho, hformed, if_true]

/-- The oldest record of a settled channel holds its list in place, and so does a record with a completion. -/
theorem Channel.Settled.nothing_leaves (h : ch.Settled) (hl : ch.list = older ++ r :: newer) {r' : BufferRecord} (hr : r'.gone = false) :
    (older ++ r' :: newer).dropWhile BufferRecord.gone = older ++ r' :: newer := by
  cases older with
  | nil => exact List.dropWhile_cons_of_neg (by simp [hr])
  | cons x xs => exact List.dropWhile_cons_of_neg (by simp [h.oldest x (by rw [hl]; rfl)])

/-- One record of a settled channel ends, and its completion is formed; the channel goes back without it, and lets its window go. -/
theorem State.update_retired {s : State} {c : ChanId} {x y ch : Channel} {r' : BufferRecord} {st : Status} {n : U16}
    (hr : s.device.state ≠ .resetting) (hs : ch.Settled) (hl : ch.list = older ++ r :: newer) (hxy : x.reap = y)
    (hyl : y.list = older ++ r' :: newer) (hq : ∀ q ∈ y.requests, q.over = false)
    (hp : ∀ x ∈ y.list, ∀ p ∈ x.ended, x.passDone y.cfg.dir p = false) (ho : ∀ x ∈ older ++ newer, y.finished x = false)
    (hfin : y.finished r' = true) (hpois : r'.state.isPoisoned = false) (hst : r'.outcome = st)
    (hform : r'.notify = true ∨ st ≠ .done) (hn : n = consumedIndex (older ++ { r' with state := .retiring } :: newer) y.fetch) :
    s.update c (x, []) = ((s.setChan c { y with
      list := older ++ { r' with state := .retiring, window := none, finalStatus := st,
                                 completion := some (bufferDone c y.cfg.dir r' r'.pass st r'.folded n) } :: newer
      consumed := n
      buffersDone := y.buffersDone + 1 }).letGoAll r'.window.toList).present c := by
  have hsettle := Channel.settle_one hq hp hyl ho hfin hpois c hn
  rw [BufferRecord.retire_with c _ hst hform, hs.nothing_leaves hl (by simp [BufferRecord.gone]), ← hxy, Channel.settle_reap,
    hxy] at hsettle
  exact State.update_eq hr hsettle (Channel.closeDone_of_list (older := older) (newer := newer) rfl)

theorem State.present_window (s : State) (c : ChanId) (w : WinId) : (s.present c).window w = s.window w := rfl

end

section
variable {s : State} {tag : TagId} {t : Transaction} {c : ChanId} {before after : List DataRequest} {q : DataRequest}

theorem State.exec_rxWriteResponse_okay (hr : s.device.state ≠ .resetting) (e : s.port.entry tag = some t) (hk : t.kind = .rxWrite)
    (ht : t.OfRequest c q.id) (hq : (s.chan c).Splits before q after) :
    exec (.rxWriteResponse tag .okay) s = .next ((s.answered tag t).update c
      ({ s.chan c with requests := before ++ q.took true :: after }, [])) := by
  obtain ⟨lane, href⟩ := ht.dataRef
  rw [exec_response_taken (c := .rxWriteResponse tag .okay) rfl e hr, State.deliver, hk]
  refine congrArg Host.Outcome.next ?_
  show State.dataAnswer _ _ _ _ = _
  rw [State.dataAnswer, href]
  exact congrArg ((s.answered tag t).update c) hq.dataResponse_okay

/-- An answered channel that settles without an end goes back as it is then. -/
theorem State.update_reaped {x y : Channel} (hr : s.device.state ≠ .resetting) (hxy : x.reap = y) (hs : y.Settled)
    (hd : y.closeDone = false) : s.update c (x, []) = s.put c y :=
  State.update_put hr (by rw [← x.settle_reap c, hxy]; exact hs.settle c) hd

end

end Sys2Proof.Machine

namespace Sys2Proof.Proofs
open Sys2Proof.Machine

/-- Settles O45: the answered request stays, or ends without ending its record. -/
theorem receiveWriteAnsweredOkay : Obligations.ReceiveWriteAnsweredOkay := by
  unfold Obligations.ReceiveWriteAnsweredOkay
  refine ⟨fun s tag t c before after q older newer r hr e hk ht => ?_, ?_⟩
  · intro ch hset hd hq ⟨hl, hrings⟩ hring hstate last flushes goesOn whole answered
    obtain ⟨q', hq'⟩ : ∃ q', q' = q.took true := ⟨_, rfl⟩
    have htook : q' = { q with answered := q.answered + 1 } := by
      rw [hq', DataRequest.took]
      simp
    have hrow := State.exec_rxWriteResponse_okay hr e hk ht hq
    have hquiet (x : DataRequest) (hx : x ∈ before ++ after) : x.over = false :=
      hset.requests x (hq.mem hx)
    have hanswered {y : Channel} (hxy : ({ ch with requests := before ++ q.took true :: after } : Channel).reap = y) (hs : y.Settled)
        (hyl : ∃ r', y.list = older ++ r' :: newer) : answered y := by
      obtain ⟨r', hyl⟩ := hyl
      show exec _ s = _
      rw [hrow, State.update_reaped (s := s.answered tag t) hr hxy hs (Channel.closeDone_of_list hyl)]
    have hsettled {y : Channel} {r' : BufferRecord} (hgoes : goesOn) (hyl : y.list = older ++ r' :: newer) (hyq : y.requests = before ++ after)
        (hsame : y.state = ch.state ∧ y.closeRec = ch.closeRec ∧ y.groups = ch.groups ∧ y.config = ch.config ∧ y.fetch = ch.fetch
          ∧ y.consumed = ch.consumed)
        (hr' : r' = { r with pass := r'.pass }) : y.Settled := by
      obtain ⟨hys, hyc, hyg, hycfg, hyf, hyn⟩ := hsame
      obtain ⟨hflush, hover⟩ := Channel.flush_same (a := ch) hys hyc hyg hycfg
      have hst : r'.state = r.state := by rw [hr']
      have hrg : r'.ring = r.ring := by rw [hr']
      have hen : r'.ended = r.ended := by rw [hr']
      have hdir : y.cfg.dir = .rx := by rw [Channel.cfg, hycfg]; exact hd
      refine hset.one_changed hl hyl ⟨hst, hrg, by rw [hr'], by rw [hr']⟩ (hyq ▸ hquiet) (fun x hx => Channel.finished_same
        (hq.inFlight_other (fun h => hrings x hx (h.trans hring.symm)) hyq) hflush hover hycfg) ?_ (fun p hp => ?_) hycfg hyf hyn
      · rcases hgoes with ⟨x, hx, hxr⟩ | ⟨hcur, ⟨hopen, hdone⟩ | ⟨hclosing, ⟨tg, hrec⟩, hgroups⟩⟩
        · exact Channel.finished_inFlight (Channel.inFlight_of_mem (hyq ▸ hx) (hxr.trans hrg.symm)) (hst ▸ hstate)
        · exact Channel.finished_open (hst.trans hcur) (hys ▸ hopen) (by rw [hr']; exact hdone)
        · exact Channel.finished_flushing (hst.trans hcur) (hys.trans hclosing) (by rw [hyc, hrec]; rfl) hdir (hyg ▸ hgroups)
      · rw [hr'] at hp ⊢
        rw [Channel.cfg, hycfg]
        exact hset.passes r (by rw [show (s.chan c).list = _ from hl]; simp) p hp
    refine ⟨fun hmore => ?_, fun hlast hgoes ⟨he, hcut⟩ hpass => ?_, fun hlast hgoes ⟨he, hcut⟩ hpass hended => ?_,
      fun hlast hgoes hlost => ?_⟩
    · have hopen : q'.over = false := Bool.eq_false_iff.mpr fun h => hmore (by
        obtain ⟨h1, h2⟩ := (DataRequest.over_iff q').mp h
        rw [htook] at h1 h2
        exact ⟨h1, h2⟩)
      have hall (x : DataRequest) (hx : x ∈ before ++ q' :: after) : x.over = false := by
        rcases List.mem_append.mp hx with hx | hx
        · exact hquiet x (List.mem_append_left _ hx)
        · rcases List.mem_cons.mp hx with rfl | hx
          · exact hopen
          · exact hquiet x (List.mem_append_right _ hx)
      rw [← htook]
      obtain ⟨hflush, hover⟩ := Channel.flush_same (a := ch) (b := { ch with requests := before ++ q' :: after }) rfl rfl rfl rfl
      have hfin (x : BufferRecord) : ({ ch with requests := before ++ q' :: after } : Channel).finished x = ch.finished x :=
        Channel.finished_same (hq.inFlight_kept (by rw [htook]) rfl x) hflush hover rfl
      have hr' : r ∈ ch.list := by rw [hl]; simp
      refine hanswered (by rw [← hq']; exact Channel.reap_quiet _ hall) (hset.one_changed hl hl ⟨rfl, rfl, rfl, rfl⟩ hall (fun x _ => hfin x)
        ((hfin r).trans (hset.records r hr')) (hset.passes r hr') rfl rfl rfl) ⟨_, hl⟩
    · refine hanswered ((hq.reap_moved hquiet hlast hd he hcut).trans ?_) (hsettled hgoes rfl rfl ⟨rfl, rfl, rfl, rfl, rfl, rfl⟩ rfl)
        ⟨_, rfl⟩
      exact Channel.mapPass_of_split (ch := { ch with requests := before ++ after, moved := ch.moved + BitVec.ofNat 32 q.count })
        hl hring (fun x hx => hring ▸ hrings x hx) hpass _
    · refine hanswered ((hq.reap_moved hquiet hlast hd he hcut).trans ?_) (hsettled hgoes hl rfl ⟨rfl, rfl, rfl, rfl, rfl, rfl⟩ rfl)
        ⟨_, hl⟩
      exact Channel.mapPass_folded (ch := { ch with requests := before ++ after, moved := ch.moved + BitVec.ofNat 32 q.count })
        hl hring (fun x hx => hring ▸ hrings x hx) hpass hended _
    · exact hanswered (hq.reap_lost hquiet hlast hd hlost) (hsettled hgoes hl rfl ⟨rfl, rfl, rfl, rfl, rfl, rfl⟩ rfl) ⟨_, hl⟩
  · intro s tag t c before after q older newer r first later p hr e hk ht ch hset hopen hd hq ⟨hl, hrings⟩ hring hcur hstatus hended
      hp hpass hpasses hlast hlanes he hcut took done leaves
    have hrow := State.exec_rxWriteResponse_okay hr e hk ht hq
    have hquiet (x : DataRequest) (hx : x ∈ before ++ after) : x.over = false := hset.requests x (hq.mem hx)
    have hr' : r ∈ ch.list := by rw [hl]; simp
    have hmem (x : BufferRecord) (hx : x ∈ older ++ newer) : x ∈ ch.list := by
      rw [hl]
      rcases List.mem_append.mp hx with hx | hx <;> simp [hx]
    obtain ⟨counted, hcounted⟩ : ∃ x, x = { r with ended := first ++ took :: later } := ⟨_, rfl⟩
    obtain ⟨y, hy⟩ : ∃ y : Channel, y = { ch with
      requests := before ++ after, moved := ch.moved + BitVec.ofNat 32 q.count, list := older ++ counted :: newer } := ⟨_, rfl⟩
    have hreap : ({ ch with requests := before ++ q.took true :: after } : Channel).reap = y := by
      have htook : counted = r.mapPass q.pass fun p => { p with answered := p.answered + q.count } := by
        rw [BufferRecord.mapPass_ended hended (fun h => hpass (h.trans hp.symm)) hp fun x hx => hp ▸ hpasses x hx]
        exact hcounted
      rw [hq.reap_moved hquiet ⟨hlast, .inl hlanes⟩ hd he hcut, hy, htook, ← hring]
      exact congrArg (fun l => ({ ch with requests := before ++ after, moved := ch.moved + BitVec.ofNat 32 q.count, list := l } : Channel))
        (map_ring_of_split (fun x => x.mapPass q.pass fun p => { p with answered := p.answered + q.count }) hl hrings)
    have hdone (x : Pass) : counted.passDone .rx x = decide (r.frames ≤ x.answered) := by rw [hcounted]; rfl
    have hothers (x : Pass) (hx : x ∈ first ++ later) : counted.passDone .rx x = false := by
      have hold := hset.passes r hr' x (by
        rw [hended]
        rcases List.mem_append.mp hx with hx | hx <;> simp [hx])
      rw [show (s.chan c).cfg.dir = .rx from hd] at hold
      rw [hdone]
      exact hold
    have hfin (x : BufferRecord) (hx : x ∈ older ++ newer) : y.finished x = ch.finished x := by
      obtain ⟨hflush, hover⟩ := Channel.flush_same (a := ch) (b := y) (by rw [hy]) (by rw [hy]) (by rw [hy]) (by rw [hy])
      exact Channel.finished_same (hq.inFlight_other (fun h => hrings x hx (h.trans hring.symm)) (by rw [hy])) hflush hover (by rw [hy])
    have hycfg : y.config = ch.config := by rw [hy]
    have hydir : y.cfg.dir = .rx := by rw [Channel.cfg, hycfg]; exact hd
    have hyl : y.list = older ++ counted :: newer := by rw [hy]
    have hyq : ∀ x ∈ y.requests, x.over = false := by rw [hy]; exact hquiet
    have hyopen : y.state ≠ .closing := by rw [hy]; exact hopen
    refine ⟨fun hfew => ?_, ?_⟩
    · have hsettled : y.Settled := by
        refine hset.one_changed hl hyl (by rw [hcounted]; exact ⟨rfl, rfl, rfl, rfl⟩) hyq hfin
          (Channel.finished_open (by rw [hcounted]; exact hcur) hyopen (by rw [hcounted]; exact hstatus)) (fun x hx => ?_) hycfg
          (by rw [hy]) (by rw [hy])
        rw [hydir]
        rw [hcounted] at hx
        rcases List.mem_append.mp hx with hx | hx
        · exact hothers x (List.mem_append_left _ hx)
        · rcases List.mem_cons.mp hx with rfl | hx
          · rw [hdone]
            exact decide_eq_false (not_le.mpr hfew)
          · exact hothers x (List.mem_append_right _ hx)
      show exec _ s = _
      rw [hrow, State.update_reaped (s := s.answered tag t) hr hreap hsettled (Channel.closeDone_of_list hyl), hy, hcounted]
    · have hleaves (hfull : r.frames ≤ took.answered) {cpls : List (Nat × Completion)}
          (hcpls : cpls = if r.notify then insertPass (p.count, done) r.passCpls else r.passCpls) :
          leaves { r with ended := first ++ later, passCpls := cpls } := by
        have htook : counted.passDone .rx took = true := (hdone took).trans (decide_eq_true hfull)
        have hn : ch.consumed = consumedIndex y.list y.fetch := by
          rw [show ch.consumed = _ from hset.consumed, hyl, show y.fetch = ch.fetch by rw [hy]]
          refine consumedIndex_congr ?_ _
          rw [show (s.chan c).list = _ from hl, List.map_append, List.map_append, List.map_cons, List.map_cons, hcounted]
          rfl
        have hleft : counted.passesLeave c .rx ch.consumed = { r with ended := first ++ later, passCpls := cpls } := by
          rw [BufferRecord.passesLeave_one (first := first) (p := took) (later := later) (by rw [hcounted]) htook hothers, hcpls,
            hcounted]
          rfl
        have hkeep (x : BufferRecord) (hx : x ∈ older ++ newer) : x.passesLeave c .rx ch.consumed = x :=
          x.passesLeave_id c .rx _ fun p hp => by
            have hold := hset.passes x (hmem x hx) p hp
            rwa [show (s.chan c).cfg.dir = .rx from hd] at hold
        have hrecords (x : BufferRecord) (hx : x ∈ y.list) : y.finished (x.keepPasses y.cfg.dir) = false := by
          rw [hydir]
          rw [hyl] at hx
          have hold (x : BufferRecord) (hx : x ∈ older ++ newer) : y.finished (x.keepPasses .rx) = false := by
            rw [x.keepPasses_id .rx fun p hp => by
              have hold := hset.passes x (hmem x hx) p hp
              rwa [show (s.chan c).cfg.dir = .rx from hd] at hold, hfin x hx]
            exact hset.records x (hmem x hx)
          rcases List.mem_append.mp hx with hx | hx
          · exact hold x (List.mem_append_left _ hx)
          · rcases List.mem_cons.mp hx with rfl | hx
            · exact Channel.finished_open (by rw [hcounted]; exact hcur) hyopen (by rw [hcounted]; exact hstatus)
            · exact hold x (List.mem_append_right _ hx)
        have hmap : (y.list.map fun x => x.passesLeave c .rx ch.consumed)
            = older ++ { r with ended := first ++ later, passCpls := cpls } :: newer := by
          have hid (l : List BufferRecord) (h : ∀ x ∈ l, x ∈ older ++ newer) : (l.map fun x => x.passesLeave c .rx ch.consumed) = l :=
            (List.map_congr_left fun x hx => hkeep x (h x hx)).trans (List.map_id' l)
          rw [hyl, List.map_append, List.map_cons, hleft, hid older fun x hx => List.mem_append_left _ hx,
            hid newer fun x hx => List.mem_append_right _ hx]
        have hhead : (older ++ { r with ended := first ++ later, passCpls := cpls } :: newer).dropWhile BufferRecord.gone
            = older ++ { r with ended := first ++ later, passCpls := cpls } :: newer := by
          cases older with
          | nil => exact List.dropWhile_cons_of_neg (by simp [BufferRecord.gone, hcur])
          | cons x xs => exact List.dropWhile_cons_of_neg (by simp [hset.oldest x (by rw [show (s.chan c).list = _ from hl]; rfl)])
        have hsettle := Channel.settle_passes hyq hrecords c hn
        rw [hydir, hmap, hhead] at hsettle
        show exec _ s = _
        rw [hrow, State.update_put (s := s.answered tag t) hr ((Channel.settle_reap _ c).symm.trans (by rw [hreap]; exact hsettle))
          (Channel.closeDone_of_list (older := older) (newer := newer) rfl), hy]
      refine ⟨fun hfull hn => hleaves hfull (by rw [hn]; rfl), fun hfull hn hbefore => hleaves hfull ?_,
        fun hfull hn hafter => hleaves hfull ?_⟩
      · rw [hn, insertPass_last hbefore]
        rfl
      · rw [hn, insertPass_first hafter]
        rfl

/-- Settles O46: with its last write the record is finished, and it alone retires. -/
theorem lastWriteRetiresRecord : Obligations.LastWriteRetiresRecord := by
  unfold Obligations.LastWriteRetiresRecord
  intro s tag t c before after q older newer r w st hr e hk ht ch hset hd hq ⟨hl, hrings⟩ hring hended hwindow hflight hans hlanes
    graceful hends hform whole p all consumed
  have hrow := State.exec_rxWriteResponse_okay hr e hk ht hq
  have hquiet (x : DataRequest) (hx : x ∈ before ++ after) : x.over = false := hset.requests x (hq.mem hx)
  have hmem (x : BufferRecord) (hx : x ∈ older ++ newer) : x ∈ ch.list := by
    rw [hl]
    rcases List.mem_append.mp hx with hx | hx <;> simp [hx]
  obtain ⟨r', hr'⟩ : ∃ x, x = { r with pass := p } := ⟨_, rfl⟩
  obtain ⟨y, hy⟩ : ∃ y : Channel, y = { ch with
    requests := before ++ after
    moved := if whole then ch.moved + BitVec.ofNat 32 q.count else ch.moved
    lost := if whole then ch.lost else ch.lost + BitVec.ofNat 32 q.count
    list := older ++ r' :: newer } := ⟨_, rfl⟩
  have hreap : ({ ch with requests := before ++ q.took true :: after } : Channel).reap = y := by
    by_cases hw : whole
    · rw [hq.reap_moved hquiet ⟨hans, hlanes⟩ hd hw.1 hw.2, hy, hr', if_pos hw, if_pos hw]
      by_cases hpass : r.pass.count = q.pass
      · rw [show p = { r.pass with answered := r.pass.answered + q.count } from if_pos ⟨hw, hpass⟩]
        exact Channel.mapPass_of_split (ch := { ch with requests := before ++ after, moved := ch.moved + BitVec.ofNat 32 q.count })
          hl hring (fun x hx => hring ▸ hrings x hx) hpass _
      · rw [show p = r.pass from if_neg fun h => hpass h.2, ← hl]
        exact Channel.mapPass_folded (ch := { ch with requests := before ++ after, moved := ch.moved + BitVec.ofNat 32 q.count })
          hl hring (fun x hx => hring ▸ hrings x hx) hpass hended _
    · rw [hq.reap_lost hquiet ⟨hans, hlanes⟩ hd hw, hy, hr', if_neg hw, if_neg hw, show p = r.pass from if_neg fun h => hw h.1, ← hl]
  obtain ⟨hflush, hover⟩ := Channel.flush_same (a := ch) (b := y) (by rw [hy]) (by rw [hy]) (by rw [hy]) (by rw [hy])
  have hycfg : y.config = ch.config := by rw [hy]
  have hydir : y.cfg.dir = .rx := by rw [Channel.cfg, hycfg]; exact hd
  have hyl : y.list = older ++ r' :: newer := by rw [hy]
  have hnone : y.inFlight r' = 0 := by
    rw [Channel.inFlight, List.length_eq_zero_iff, List.filter_eq_nil_iff, hy, hr']
    exact fun x hx => by simpa using hflight x hx
  have hothers (x : BufferRecord) (hx : x ∈ older ++ newer) : y.finished x = false :=
    (Channel.finished_same (hq.inFlight_other (fun h => hrings x hx (h.trans hring.symm)) (by rw [hy])) hflush hover hycfg).trans
      (hset.records x (hmem x hx))
  have hfinished : y.finished r' = true ∧ r'.state.isPoisoned = false ∧ r'.outcome = st := by
    have hst : r'.state = r.state ∧ r'.finalStatus = r.finalStatus ∧ r'.ended = [] := by
      rw [hr']
      exact ⟨rfl, rfl, hended⟩
    obtain ⟨hrs, hrf, hre⟩ := hst
    have hclosing : y.state = ch.state ∧ y.closeRec = ch.closeRec ∧ y.groups = ch.groups := by
      rw [hy]
      exact ⟨rfl, rfl, rfl⟩
    obtain ⟨hys, hyc, hyg⟩ := hclosing
    simp only [BufferRecord.outcome, hrs, hrf]
    rcases hends with ⟨h | h, rfl⟩ | ⟨h, hc, hno, hdone, rfl⟩ | ⟨h, hc, ⟨tg, hrec⟩, hg, rfl⟩
    · exact ⟨by simp [Channel.finished, hrs, h, hnone, hre, hydir], by rw [h]; rfl, by simp [h]⟩
    · exact ⟨by simp [Channel.finished, hrs, h, hnone], by rw [h]; rfl, by simp [h]⟩
    · have hmode : (y.closeRec.map CloseRecord.mode) ≠ some .graceful := fun hm => by
        obtain ⟨cr, hcr, hcm⟩ := Option.map_eq_some_iff.mp hm
        refine hno ⟨cr.tag, ?_⟩
        rw [← hyc, hcr, ← hcm]
      exact ⟨by simp [Channel.finished, hrs, h, hnone, hrf, hdone, Channel.flushing, hmode], by rw [h]; rfl, by simp [hdone]⟩
    · exact ⟨by simp [Channel.finished, hrs, h, hnone, Channel.flushOver, hys, hc, hyc, hrec, hyg, hg, hydir], by rw [h]; rfl, by simp [h]⟩
  obtain ⟨hfin, hpois, hout⟩ := hfinished
  have hpasses (x : BufferRecord) (hx : x ∈ y.list) : ∀ p ∈ x.ended, x.passDone y.cfg.dir p = false := by
    rw [hydir]
    rw [hyl] at hx
    have hold (x : BufferRecord) (hx : x ∈ older ++ newer) : ∀ p ∈ x.ended, x.passDone .rx p = false := fun p hp => by
      have hold := hset.passes x (hmem x hx) p hp
      rwa [show (s.chan c).cfg.dir = .rx from hd] at hold
    rcases List.mem_append.mp hx with hx | hx
    · exact hold x (List.mem_append_left _ hx)
    · rcases List.mem_cons.mp hx with rfl | hx
      · intro p hp
        rw [hr', show ({ r with pass := _ } : BufferRecord).ended = [] from hended] at hp
        cases hp
      · exact hold x (List.mem_append_right _ hx)
  have hn : consumed = consumedIndex (older ++ { r' with state := .retiring } :: newer) y.fetch := by
    rw [hy, hr']
    exact consumedIndex_congr (by simp [BufferRecord.standing, all]) ch.fetch
  have hupdate := State.update_retired (s := s.answered tag t) (c := c) hr hset hl hreap hyl (by rw [hy]; exact hquiet) hpasses hothers hfin
    hpois hout (by rw [hr']; exact hform) hn
  refine ⟨_, bufferDone c .rx { r with pass := p } p st r.folded consumed, hrow, State.update_only _ _ c _ rfl, ?_, ?_, rfl, rfl, rfl, rfl,
    rfl, rfl, rfl, rfl, rfl, rfl, rfl⟩
  · rw [hupdate, hr', show ({ r with pass := p } : BufferRecord).window = some w from hwindow]
    exact congrArg Window.use (State.setWindow_window_same _ w _)
  · rw [hupdate]
    show (State.letGoAll _ _).chan c = _
    rw [State.letGoAll_chan, State.setChan_chan_same, hydir, hy, hr']

end Sys2Proof.Proofs
end

section
/-! PROOFS. The response to a transmit read (R76, R78), and a data transaction answered ERROR (R53, R56, R96, R99). -/

set_option Elab.async false

namespace Sys2Proof.Machine

/-! ## A transmit read answered OKAY (R76, R78) -/

section
variable {ch : Channel} {before after : List DataRequest} {q : DataRequest}

theorem Channel.flush_tx (h : ch.cfg.dir = .tx) : ch.flushing = false ∧ ch.flushOver = false := by
  simp [Channel.flushing, Channel.flushOver, h]

theorem Channel.absorbs_iff (ch : Channel) (q : DataRequest) : ch.absorbs q = true ↔ q.absorbed = true ∨ ch.flowing = false := by
  simp [Channel.absorbs]

theorem Channel.Splits.readData_dropped (h : ch.Splits before q after) (ha : ch.absorbs q = true) (lane : Nat) (bs : List Byte) :
    ch.readData q.id lane bs = ch := by
  simp only [Channel.readData, h.find, ha, if_true]

theorem Channel.Splits.readData_fills (h : ch.Splits before q after) (ha : ch.absorbs q = false) (lane : Nat) (bs : List Byte) :
    ch.readData q.id lane bs = { ch with groups := ch.groups.map fun g => g.fillRead ch.cfg q lane bs } := by
  simp only [Channel.readData, h.find, ha, Bool.false_eq_true, if_false]

/-- The sample at a place of the bytes read (R76, R77). -/
def readSample (cfg : ChanConfig) (bs : List Byte) (i : Nat) : U16 :=
  if cfg.width = 8 then (byteAt bs i).setWidth 16 else u16At bs (i * 2)

theorem Group.fillRead_planar {cfg : ChanConfig} (hp : cfg.layout = .planar) (g : Group) (q : DataRequest) (lane : Nat) (bs : List Byte) :
    g.fillRead cfg q lane bs = match g.source with
      | some src =>
        if g.cond = .waiting ∧ src.ring = q.ring ∧ src.pass = q.pass ∧ q.first ≤ src.frame ∧ src.frame < q.first + q.count then
          { g with samples := g.samples.set lane (some (readSample cfg bs (src.frame - q.first)))
                   cond := if (g.samples.set lane (some (readSample cfg bs (src.frame - q.first)))).all Option.isSome then .whole
                     else .waiting }
        else g
      | none => g := by
  unfold Group.fillRead
  cases g.source with
  | none => rfl
  | some src =>
    simp only [hp]
    rfl

theorem Group.fillRead_interleaved {cfg : ChanConfig} (hp : cfg.layout = .interleaved) (g : Group) (q : DataRequest) (lane : Nat)
    (bs : List Byte) : g.fillRead cfg q lane bs = match g.source with
      | some src =>
        if g.cond = .waiting ∧ src.ring = q.ring ∧ src.pass = q.pass ∧ q.first ≤ src.frame ∧ src.frame < q.first + q.count then
          { g with cond := .whole
                   samples := (List.range cfg.lanes).map fun k => some (readSample cfg bs ((src.frame - q.first) * cfg.lanes + k)) }
        else g
      | none => g := by
  unfold Group.fillRead
  cases g.source with
  | none => rfl
  | some src =>
    have hall (f : Nat → U16) : ((List.range cfg.lanes).map fun k => some (f k)).all Option.isSome = true := by simp
    simp only [hp, hall, if_true]
    rfl

/-- Where the last answer of a request has come, the request of a transmit channel ends without a count. -/
theorem Channel.Splits.reap_tx (h : ch.Splits before q after) (ho : ∀ x ∈ before ++ after, x.over = false)
    (hlast : q.answered + 1 = q.issued ∧ (q.issued = q.lanes ∨ q.cut = true)) (hd : ch.cfg.dir = .tx) (ok : Bool) (gs : List Group) :
    ({ ch with requests := before ++ q.took ok :: after, groups := gs } : Channel).reap
      = { ch with requests := before ++ after, groups := gs } := by
  have hsplit : ({ ch with requests := before ++ q.took ok :: after, groups := gs } : Channel).Splits before (q.took ok) after :=
    ⟨rfl, h.2⟩
  rw [hsplit.reap ho ((DataRequest.over_iff _).mpr hlast), hsplit.endRequest_tx hd]

end

/-! ## A data transaction answered ERROR (R53, R56, R96, R99) -/

section
variable {ch : Channel} {before after : List DataRequest} {q : DataRequest}

theorem Channel.Splits.dataResponse_error (h : ch.Splits before q after) :
    ch.dataResponse q.id false = ({ ch with requests := before ++ q.took false :: after } : Channel).dataError q := by
  simp only [Channel.dataResponse, h.find, h.answer, Bool.false_eq_true, if_false]

theorem Channel.dataError_absorbed (h : ch.absorbs q = true) :
    ch.dataError q = ((ch.mapRecord q.ring BufferRecord.failed).endFlush q, []) := if_pos h

theorem Channel.dataError_halts (h : ch.absorbs q = false) : ch.dataError q = ch.reap.dataHalt q.ring := if_neg (by simp [h])

theorem Channel.discard_groups (ch : Channel) (atHalt : Bool) : (ch.discard atHalt).groups = [] := by
  unfold Channel.discard
  dsimp only
  split <;> rfl

theorem Channel.discard_lost (h : ch.cfg.dir = .rx) (atHalt : Bool) :
    (ch.discard atHalt).lost = ch.lost + BitVec.ofNat 32 ch.groups.length := by
  simp only [Channel.discard, h]
  rfl

theorem Channel.discard_requests (ch : Channel) (atHalt : Bool) : (ch.discard atHalt).requests = ch.requests :=
  (ch.discard_kept atHalt).requests

/-- What an absorbing makes of a request (R49, R96). -/
def DataRequest.absorb (q : DataRequest) : DataRequest := { q with absorbed := true, cut := q.cut || q.inFormation }

theorem Channel.absorbAll_requests (ch : Channel) : ch.absorbAll.requests = ch.requests.map DataRequest.absorb := rfl

theorem DataRequest.absorb_over_other (h : q.inFormation = false) : q.absorb.over = q.over := by
  simp [DataRequest.absorb, DataRequest.over, h]

/-- A request of which every lane issued has answered is over once no further lane is issued. -/
theorem DataRequest.absorb_over (ha : q.answered = q.issued) (hi : q.issued ≤ q.lanes) : q.absorb.over = true := by
  refine (DataRequest.over_iff _).mpr ⟨ha, ?_⟩
  by_cases hl : q.issued = q.lanes
  · exact .inl hl
  · have hlt : q.issued < q.lanes := by omega
    refine .inr ?_
    simp [DataRequest.absorb, DataRequest.inFormation, hlt]

/-- The halt at a data transaction answered ERROR (R57, R96, R99). -/
theorem Channel.dataHalt_spec (ch : Channel) (ring : U16) : (ch.dataHalt ring).1.state = .halted
    ∧ (ch.dataHalt ring).1.haltCause = some .busError ∧ (ch.dataHalt ring).1.groups = []
    ∧ (∀ x ∈ (ch.dataHalt ring).1.list, x.state ≠ .current ∧ x.state ≠ .draining ∧ x.state ≠ .next)
    ∧ (ch.dataHalt ring).1.requests = ch.requests.map DataRequest.absorb ∧ (ch.dataHalt ring).1.descRead ≠ .outstanding := by
  refine ⟨rfl, rfl, ch.discard_groups true, fun x hx => ?_, ?_, (ch.discard true).absorbAll_descRead⟩
  · obtain ⟨hmem, hleft⟩ := List.mem_filter.mp hx
    obtain ⟨y, -, rfl⟩ := List.mem_map.mp hmem
    split
    · exact ⟨nofun, nofun, nofun⟩
    · next hb =>
      rw [if_neg hb] at hleft
      refine ⟨fun h => hb ?_, fun h => hb ?_, fun h => ?_⟩
      · simp [BufferRecord.begun, h]
      · simp [BufferRecord.begun, h]
      · simp [BufferRecord.untouched, h] at hleft
  · exact congrArg (List.map DataRequest.absorb) (ch.discard_requests true)

theorem Channel.dataHalt_config (ch : Channel) (ring : U16) : (ch.dataHalt ring).1.config = ch.config := (ch.discard_kept true).config

theorem Channel.dataHalt_lost (h : ch.cfg.dir = .rx) (ring : U16) :
    (ch.dataHalt ring).1.lost = ch.lost + BitVec.ofNat 32 ch.groups.length := Channel.discard_lost h true

/-- The halt fixes the outcome of every begun record (R99). -/
theorem Channel.dataHalt_begun {x : BufferRecord} (hx : x ∈ ch.list) (hb : x.state = .current ∨ x.state = .draining)
    (hd : x.finalStatus = .done) (ring : U16) : ∃ y ∈ (ch.dataHalt ring).1.list, y.ring = x.ring ∧ y.state = .ending
      ∧ y.finalStatus = if x.ring = ring then .busError else .aborted := by
  obtain ⟨z, hz, hring, hstate, hstatus⟩ := Channel.Carries.discard ch true x hx
  have hbegun : z.begun = true := by rcases hb with h | h <;> simp [BufferRecord.begun, hstate, h]
  refine ⟨z.endWith (if z.ring = ring then .busError else .aborted), List.mem_filter.mpr ⟨List.mem_map.mpr ⟨z, hz, if_pos hbegun⟩, rfl⟩,
    hring, rfl, ?_⟩
  rw [← hring]
  exact if_pos (hstatus.trans hd)

theorem Channel.Carries.endFlush (ch : Channel) (q : DataRequest) : ch.Carries (ch.endFlush q) := by
  unfold Channel.endFlush
  split
  · exact .discard ch false
  · exact .refl ch

/-- An absorbed ERROR makes its record complete BUS_ERROR (R53, R96). -/
theorem Channel.failed_carried {x : BufferRecord} (hx : x ∈ ch.list) (hr : x.ring = q.ring) (hs : x.state ≠ .retiring) :
    ∃ y ∈ ((ch.mapRecord q.ring BufferRecord.failed).endFlush q).list, y.ring = x.ring ∧ y.state = x.state
      ∧ y.finalStatus = .busError := by
  have hfailed : x.failed = { x.fold with finalStatus := .busError } := if_neg hs
  have hmem : x.failed ∈ (ch.mapRecord q.ring BufferRecord.failed).list := List.mem_map.mpr ⟨x, hx, if_pos hr⟩
  obtain ⟨y, hy, hring, hstate, hstatus⟩ := Channel.Carries.endFlush _ q _ hmem
  rw [hfailed] at hring hstate hstatus
  exact ⟨y, hy, hring, hstate, hstatus⟩

theorem Channel.endFlush_open (h : ch.state ≠ .closing ∨ q.flush = false) : ch.endFlush q = ch :=
  if_neg fun k => h.elim (fun h => h k.1) fun h => by rw [h] at k; exact absurd k.2 (by decide)

theorem Channel.endFlush_flush (hc : ch.state = .closing) (hf : q.flush = true) : ch.endFlush q = (ch.discard false).absorbAll :=
  if_pos ⟨hc, hf⟩

/-- Where one request is over, with a lane in ERROR, its frames are lost in the settling (R73). -/
theorem Channel.Splits.settle_lost (h : ch.Splits before q after) (ho : ∀ x ∈ before ++ after, x.over = false) (hover : q.over = true)
    (he : q.error = true) (hd : ch.cfg.dir = .rx) (c : ChanId) : (ch.settle c).1.lost = ch.lost + BitVec.ofNat 32 q.count := by
  have hreap : (ch.settle c).1.lost = ch.reap.lost := rfl
  rw [hreap, h.reap ho hover, h.endRequest_lost hd (by simp [he])]

theorem Channel.settle_lost_none (h : ∀ x ∈ ch.requests, x.over = false) (c : ChanId) : (ch.settle c).1.lost = ch.lost := by
  have hreap : (ch.settle c).1.lost = ch.reap.lost := rfl
  rw [hreap, Channel.reap_quiet ch h]

/-- The same requests, absorbed. -/
theorem Channel.Splits.absorb {ch' : Channel} (h : ch.Splits before q after) (h' : ch'.requests = ch.requests.map DataRequest.absorb) :
    ch'.Splits (before.map DataRequest.absorb) q.absorb (after.map DataRequest.absorb) := by
  refine ⟨by rw [h', h.1, List.map_append, List.map_cons], fun x hx => ?_⟩
  rw [← List.map_append] at hx
  obtain ⟨y, hy, rfl⟩ := List.mem_map.mp hx
  exact h.2 y hy

end

section
variable {s : State} {tag : TagId} {t : Transaction} {c : ChanId} {before after : List DataRequest} {q : DataRequest}

theorem State.deliver_txRead (hk : t.kind = .txRead) (answer : ReadResult) :
    s.deliver t answer = s.readWhole t answer fun s a => s.readAnswer t a := by simp only [State.deliver, hk]

theorem State.exec_data_error {e : Instr} (hr : s.device.state ≠ .resetting) (he : s.port.entry tag = some t) (ht : t.OfRequest c q.id)
    (hk : t.kind = .rxWrite ∧ e = .rxWriteResponse tag .error ∨ t.kind = .txRead ∧ e = .txReadResponse tag .error)
    (hq : (s.chan c).Splits before q after) : exec e s = .next ((s.answered tag t).update c
      (({ s.chan c with requests := before ++ q.took false :: after } : Channel).dataError q)) := by
  obtain ⟨lane, href⟩ := ht.dataRef
  have hanswer : (s.answered tag t).dataAnswer t none false
      = (s.answered tag t).update c ((s.chan c).dataResponse q.id false) := by
    rw [State.dataAnswer, href]
    rfl
  rw [← hq.dataResponse_error, ← hanswer]
  rcases hk with ⟨hk, rfl⟩ | ⟨hk, rfl⟩
  · rw [exec_response_taken (c := .rxWriteResponse tag .error) rfl he hr, State.deliver, hk]
    rfl
  · rw [exec_response_taken (c := .txReadResponse tag .error) rfl he hr, State.deliver_txRead hk, State.readWhole_error,
      State.readAnswer]

theorem State.exec_txReadResponse_okay {bs : List Byte} {lane : Nat} {gs : List Group} (hr : s.device.state ≠ .resetting)
    (e : s.port.entry tag = some t) (hk : t.kind = .txRead) (hlen : bs.length = t.length) (href : t.dataRef = some (c, q.id, lane))
    (hq : (s.chan c).Splits before q after) (hg : (s.chan c).readData q.id lane bs = { s.chan c with groups := gs }) :
    exec (.txReadResponse tag (.okay bs)) s = .next ((s.answered tag t).update c
      ({ s.chan c with requests := before ++ q.took true :: after, groups := gs }, [])) := by
  have hsplit : ({ s.chan c with groups := gs } : Channel).Splits before q after := hq
  have hanswer : (s.answered tag t).readAnswer t (.okay bs)
      = (s.answered tag t).update c (((s.chan c).readData q.id lane bs).dataResponse q.id true) := by
    rw [State.readAnswer, State.dataAnswer, href]
    rfl
  rw [exec_response_taken (c := .txReadResponse tag (.okay bs)) rfl e hr, State.deliver_txRead hk,
    State.readWhole_okay (s.answered tag t) t bs (fun s a => s.readAnswer t a) hlen, hanswer, hg, hsplit.dataResponse_okay]

end

end Sys2Proof.Machine

namespace Sys2Proof.Proofs
open Sys2Proof.Machine

/-- Settles O48: the samples enter the groups, and the answered request stays or ends. -/
theorem transmitReadFillsItsGroups : Obligations.TransmitReadFillsItsGroups := by
  unfold Obligations.TransmitReadFillsItsGroups
  intro s tag t c before after q older newer r bs hr e hk ht hlen ch hset hd hlanes hq ⟨hl, hrings⟩ hring hstate n sample last requests
    others begun dropped fills filled
  obtain ⟨lane, href⟩ := ht.dataRef
  have hquiet (x : DataRequest) (hx : x ∈ before ++ after) : x.over = false := hset.requests x (hq.mem hx)
  have hmem (x : BufferRecord) (hx : x ∈ older ++ newer) : x ∈ ch.list := by
    rw [hl]
    rcases List.mem_append.mp hx with hx | hx <;> simp [hx]
  have hr' : r ∈ ch.list := by rw [hl]; simp
  have htook : q.took true = { q with answered := q.answered + 1 } := by simp [DataRequest.took]
  have hfin {y : Channel} (hyc : y.config = ch.config) {x : BufferRecord} (hin : y.inFlight x = ch.inFlight x) :
      y.finished x = ch.finished x := by
    have hyd : y.cfg.dir = .tx := by rw [Channel.cfg, hyc]; exact hd
    obtain ⟨h1, h2⟩ := Channel.flush_tx hyd
    obtain ⟨h3, h4⟩ := Channel.flush_tx (ch := ch) hd
    exact Channel.finished_same hin (h1.trans h3.symm) (h2.trans h4.symm) hyc
  have hgone (x : BufferRecord) (hx : x ∈ older ++ newer) : x.ring ≠ q.ring := fun h => hrings x hx (h.trans hring.symm)
  have hgoes {gs : List Group} (hg : ch.readData q.id lane bs = { ch with groups := gs }) (hgo : ¬ last ∨ others ∨ begun) :
      filled gs := by
    have hrow := State.exec_txReadResponse_okay hr e hk hlen href hq hg
    show exec _ s = _
    by_cases hlast : last
    · have hsettled : ({ ch with requests := before ++ after, groups := gs } : Channel).Settled := by
        refine hset.one_changed (b := { ch with requests := before ++ after, groups := gs }) hl hl ⟨rfl, rfl, rfl, rfl⟩ hquiet
          (fun x hx => hfin (y := { ch with requests := before ++ after, groups := gs }) rfl
            (hq.inFlight_other (ch' := { ch with requests := before ++ after, groups := gs }) (hgone x hx) rfl)) ?_ (hset.passes r hr') rfl rfl rfl
        rcases hgo.resolve_left (not_not.mpr hlast) with ⟨x, hx, hxr⟩ | ⟨hne, hdone, hfew⟩
        · exact Channel.finished_inFlight (Channel.inFlight_of_mem hx hxr) hstate
        · have htx : ({ ch with requests := before ++ after, groups := gs } : Channel).cfg.dir = .tx := hd
          have hrx : (({ ch with requests := before ++ after, groups := gs } : Channel).cfg.dir == .rx) = false := by rw [htx]; rfl
          rcases hstate with h | h | h
          · simp [Channel.finished, h, hdone, Channel.flushOver, htx]
          · simp [Channel.finished, h, hdone, hrx, hfew]
          · exact absurd h hne
      rw [hrow, State.update_reaped (s := s.answered tag t) hr (hq.reap_tx hquiet hlast hd true gs) hsettled
        (Channel.closeDone_of_list hl)]
      simp only [requests, if_pos hlast, List.append_nil]
    · have hopen : (q.took true).over = false := Bool.eq_false_iff.mpr fun h => hlast ((DataRequest.over_iff _).mp h)
      have hall (x : DataRequest) (hx : x ∈ before ++ q.took true :: after) : x.over = false := by
        rcases List.mem_append.mp hx with hx | hx
        · exact hquiet x (List.mem_append_left _ hx)
        · rcases List.mem_cons.mp hx with rfl | hx
          · exact hopen
          · exact hquiet x (List.mem_append_right _ hx)
      have hkept (x : BufferRecord) : ({ ch with requests := before ++ q.took true :: after, groups := gs } : Channel).finished x
          = ch.finished x :=
        hfin (y := { ch with requests := before ++ q.took true :: after, groups := gs }) rfl
          (hq.inFlight_kept (ch' := { ch with requests := before ++ q.took true :: after, groups := gs }) (q' := q.took true) rfl rfl x)
      have hsettled : ({ ch with requests := before ++ q.took true :: after, groups := gs } : Channel).Settled :=
        hset.one_changed (b := { ch with requests := before ++ q.took true :: after, groups := gs }) hl hl ⟨rfl, rfl, rfl, rfl⟩ hall
          (fun x _ => hkept x) ((hkept r).trans (hset.records r hr')) (hset.passes r hr') rfl rfl rfl
      rw [hrow, State.update_reaped (s := s.answered tag t) hr (Channel.reap_quiet _ hall) hsettled (Channel.closeDone_of_list hl)]
      simp only [requests, if_neg hlast, htook, List.append_assoc, List.cons_append, List.nil_append]
  have hdropped (h : dropped) : ch.readData q.id lane bs = ch := by
    refine hq.readData_dropped ((Channel.absorbs_iff _ _).mpr ?_) lane bs
    rcases h with h | h | h
    · exact .inr (by simp [Channel.flowing, h])
    · exact .inr (by simp [Channel.flowing, h])
    · exact .inl h
  have hfills (h : fills) : ch.absorbs q = false := by
    obtain ⟨hflow, habs, -⟩ := h
    rw [Channel.absorbs, habs, (ch.flowing_iff).mpr hflow]
    rfl
  refine ⟨fun h hgo => hgoes (hdropped h) hgo, fun h hlast hnone hfixed hform _ => ?_, fun k hf hp hk' => ?_, fun hf hp => ?_⟩
  · have hrow := State.exec_txReadResponse_okay (gs := ch.groups) hr e hk hlen href hq (hdropped h)
    obtain ⟨y, hy⟩ : ∃ y : Channel, y = { ch with requests := before ++ after } := ⟨_, rfl⟩
    have hyc : y.config = ch.config := by rw [hy]
    have hyd : y.cfg.dir = .tx := by rw [Channel.cfg, hyc]; exact hd
    have hyl : y.list = older ++ r :: newer := by rw [hy]; exact hl
    have hzero : y.inFlight r = 0 := by
      rw [Channel.inFlight, List.length_eq_zero_iff, List.filter_eq_nil_iff, hy]
      exact fun x hx => by simpa using fun hxr => hnone ⟨x, hx, hxr⟩
    have hfinished : y.finished r = true := by
      obtain ⟨hflush, -⟩ := Channel.flush_tx hyd
      rcases hstate with hs | hs | hs
      · have hne : r.finalStatus ≠ .done := hfixed.resolve_left (by rw [hs]; decide)
        simp [Channel.finished, hs, hzero, hne, hflush]
      · have hne : r.finalStatus ≠ .done := hfixed.resolve_left (by rw [hs]; decide)
        simp [Channel.finished, hs, hzero, hne]
      · simp [Channel.finished, hs, hzero]
    have hout : r.outcome = r.finalStatus := if_neg fun k => hfixed.elim (fun h => by rw [h] at k; exact absurd k.1 (by decide)) fun h => h k.2
    have hupdate := State.update_retired (s := s.answered tag t) (c := c) hr hset hl
      (x := { ch with requests := before ++ q.took true :: after }) (y := y)
      ((hq.reap_tx hquiet hlast hd true ch.groups).trans hy.symm) hyl (by rw [hy]; exact hquiet)
      (by rw [hyl, hyd, ← hl]; exact fun x hx p hp => hd ▸ hset.passes x hx p hp)
      (fun x hx => (hfin hyc (hq.inFlight_other (hgone x hx) (by rw [hy]))).trans (hset.records x (hmem x hx))) hfinished
      (by rcases hstate with hs | hs | hs <;> rw [hs] <;> rfl) hout hform rfl
    refine ⟨_, _, hrow, State.update_only _ _ c _ rfl, ?_, rfl⟩
    rw [hupdate]
    show (State.letGoAll _ _).chan c = _
    rw [State.letGoAll_chan, State.setChan_chan_same, hyd, hy]
  · have hlane : lane = k := by
      obtain ⟨hc, -, -⟩ := ht
      rw [Transaction.dataRef, hc, hk'] at href
      exact (Prod.mk.inj (Prod.mk.inj (Option.some.inj href)).2).2.symm
    subst hlane
    refine hgoes ((hq.readData_fills (hfills hf) lane bs).trans ?_) hf.2.2
    exact congrArg (fun gs => ({ ch with groups := gs } : Channel))
      (List.map_congr_left fun g _ => (Group.fillRead_planar hp g q lane bs).trans rfl)
  · refine hgoes ((hq.readData_fills (hfills hf) lane bs).trans ?_) hf.2.2
    exact congrArg (fun gs => ({ ch with groups := gs } : Channel))
      (List.map_congr_left fun g _ => (Group.fillRead_interleaved hp g q lane bs).trans rfl)

/-- Settles O47: a claim that arises halts the channel; an absorbed one fixes the outcome of its record alone. -/
theorem dataErrorHaltsUnlessAbsorbed : Obligations.DataErrorHaltsUnlessAbsorbed := by
  unfold Obligations.DataErrorHaltsUnlessAbsorbed
  intro s tag t c before after q e hr he ht hq hk
  refine ⟨_, State.exec_data_error hr he ht hk hq, State.update_only _ _ c _ rfl, ?_⟩
  intro ch
  obtain ⟨x, hx⟩ : ∃ x : Channel, x = { ch with requests := before ++ q.took false :: after } := ⟨_, rfl⟩
  obtain ⟨u, hu⟩ : ∃ u, u = (s.answered tag t).update c (x.dataError q) := ⟨_, rfl⟩
  obtain ⟨y, hy⟩ : ∃ y, y = ((x.dataError q).1.settle c).1 := ⟨_, rfl⟩
  show _ ∧ _
  rw [← hx, ← hu]
  have hback := State.update_closing (s := s.answered tag t) (c := c) hr (x.dataError q)
  rw [← hu, ← hy] at hback
  have hty : u.chan c = { y with state := (u.chan c).state, closeRec := (u.chan c).closeRec } := by
    rcases hback with h | ⟨-, h⟩ <;> rw [h]
    rfl
  have hopen (h : y.state ≠ .closing) : u.chan c = y := hback.resolve_right fun ⟨hd, _⟩ => h ((Channel.closeDone_iff y).mp hd).1
  obtain ⟨hsame, hreqs, hstates⟩ := (x.dataError q).1.settle_spec c
  rw [← hy] at hsame hreqs hstates
  have hlist : (u.chan c).list = y.list := (congrArg Channel.list hty).trans rfl
  have hxs : x.state = ch.state := by rw [hx]
  have hxl : x.list = ch.list := by rw [hx]
  have hflows (h : ch.state = .starved ∨ ch.state = .active) (ha : q.absorbed = false) : x.dataError q = x.reap.dataHalt q.ring := by
    refine Channel.dataError_halts ?_
    rw [Channel.absorbs, ha, (x.flowing_iff).mpr (hxs ▸ h)]
    rfl
  have habsorbs (h : ch.state = .halted ∨ ch.state = .closing ∨ q.absorbed = true) :
      x.dataError q = ((x.mapRecord q.ring BufferRecord.failed).endFlush q, []) := by
    refine Channel.dataError_absorbed ((Channel.absorbs_iff _ _).mpr ?_)
    rcases h with h | h | h
    · exact .inr (by simp [Channel.flowing, hxs, h])
    · exact .inr (by simp [Channel.flowing, hxs, h])
    · exact .inl h
  refine ⟨fun ⟨hf, ha⟩ => ?_, fun h => ?_, fun hc => ?_, fun r hrl hbegun hdone hf ha => ?_, fun r hrl hstate hring h => ?_,
    fun hset hd hform hans hlanes => ?_⟩
  · obtain ⟨h1, h2, h3, h4, h5, h6⟩ := x.reap.dataHalt_spec q.ring
    rw [← hflows hf ha] at h1 h2 h3 h4 h5 h6
    rw [hopen (by rw [hsame.state, h1]; decide)]
    refine ⟨hsame.state.trans h1, hsame.haltCause.trans h2, hsame.groups.trans h3, fun r hr => ?_, fun p hp => ?_, ?_⟩
    · rcases hstates r hr with h | h
      · rw [h]
        exact ⟨nofun, nofun, nofun⟩
      · obtain ⟨z, hz, hzs⟩ := List.mem_map.mp h
        rw [← hzs]
        exact h4 z hz
    · obtain ⟨hin, -⟩ := hreqs p hp
      rw [h5] at hin
      obtain ⟨z, -, rfl⟩ := List.mem_map.mp hin
      rfl
    · rw [hsame.descRead]
      exact h6
  · have hnc : ch.state ≠ .closing := h.elim (fun h => by rw [h]; decide) And.left
    have herr : x.dataError q = (x.mapRecord q.ring BufferRecord.failed, []) := by
      rw [habsorbs (h.imp id fun h => .inr h.2), Channel.endFlush_open (.inl (by exact hxs ▸ hnc))]
    rw [herr] at hsame
    rw [hopen (by rw [hsame.state]; exact hxs ▸ hnc)]
    exact ⟨hsame.state.trans hxs, hsame.haltCause.trans (by rw [hx]; rfl), hsame.groups.trans (by rw [hx]; rfl)⟩
  · have herr := habsorbs (.inr (.inl hc))
    have hmc : (x.mapRecord q.ring BufferRecord.failed).state = .closing := hxs.trans hc
    have hz : (x.dataError q).1.state = .closing ∧ (x.dataError q).1.closeRec = ch.closeRec ∧ (x.dataError q).1.haltCause = ch.haltCause
        ∧ (x.dataError q).1.groups = if q.flush then [] else ch.groups := by
      rw [herr]
      by_cases hflush : q.flush = true
      · obtain ⟨hks, hkc⟩ : _ ∧ _ := ⟨((x.mapRecord q.ring BufferRecord.failed).discard_kept false).state,
          (x.mapRecord q.ring BufferRecord.failed).discard_kept false⟩
        rw [Channel.endFlush_flush hmc hflush, if_pos hflush]
        exact ⟨hks.trans hmc, hkc.closeRec.trans (by rw [hx]; rfl), hkc.haltCause.trans (by rw [hx]; rfl), Channel.discard_groups _ false⟩
      · rw [Channel.endFlush_open (.inr (Bool.eq_false_iff.mpr hflush)), if_neg hflush]
        exact ⟨hmc, by rw [hx]; rfl, by rw [hx]; rfl, by rw [hx]; rfl⟩
    obtain ⟨hzs, hzc, hzh, hzg⟩ := hz
    refine ⟨?_, (congrArg Channel.haltCause hty).trans (hsame.haltCause.trans hzh),
      (congrArg Channel.groups hty).trans (hsame.groups.trans hzg)⟩
    rcases hback with h | ⟨-, h⟩ <;> rw [h]
    · exact .inl ⟨hsame.state.trans hzs, hsame.closeRec.trans hzc⟩
    · exact .inr rfl
  · obtain ⟨z, hz, hzr, hzs, hzf⟩ := Channel.Carries.reap x r (hxl ▸ hrl)
    obtain ⟨w, hw, hwr, hws, hwf⟩ := Channel.dataHalt_begun hz (by rwa [hzs]) (hzf.trans hdone) q.ring
    rw [← hflows hf ha] at hw
    obtain ⟨v, hv, hvr, hvf, hvs⟩ := Channel.settle_keeps_status _ c hw (by rw [hws]; decide) (by rw [hwf]; split <;> decide)
    refine ⟨v, by rw [hlist, hy]; exact hv, hvr.trans (hwr.trans hzr), ?_, hvf.trans (hwf.trans (by rw [hzr]))⟩
    rwa [hws] at hvs
  · have hnr : r.state ≠ .retiring := by rcases hstate with h | h | h <;> rw [h] <;> decide
    obtain ⟨w, hw, hwr, hws, hwf⟩ := Channel.failed_carried (ch := x) (q := q) (hxl ▸ hrl) hring hnr
    have hin : w ∈ (x.dataError q).1.list := by rw [habsorbs h]; exact hw
    obtain ⟨v, hv, hvr, hvf, -⟩ := Channel.settle_keeps_status _ c hin (by rw [hws]; exact hnr) (by rw [hwf]; decide)
    exact ⟨v, by rw [hlist, hy]; exact hv, hvr.trans hwr, hvf.trans hwf⟩
  · have hlost : (u.chan c).lost = ((x.dataError q).1.settle c).1.lost := (congrArg Channel.lost hty).trans (by rw [hy])
    have hquiet (p : DataRequest) (hp : p ∈ before ++ after) : p.over = false := hset.requests p (hq.mem hp)
    have hquiet' (p : DataRequest) (hp : p ∈ before.map DataRequest.absorb ++ after.map DataRequest.absorb) : p.over = false := by
      rw [← List.map_append] at hp
      obtain ⟨z, hz, rfl⟩ := List.mem_map.mp hp
      exact (DataRequest.absorb_over_other (hform z hz)).trans (hquiet z hz)
    have hxq : x.Splits before (q.took false) after := by rw [hx]; exact hq.answered false
    have hxd : x.cfg.dir = .rx := by rw [hx]; exact hd
    have herror : (q.took false).error = true := by simp [DataRequest.took]
    have habsorbed : (q.took false).absorb.over = true := DataRequest.absorb_over hans hlanes
    obtain ⟨m, hm⟩ : ∃ m, m = x.mapRecord q.ring BufferRecord.failed := ⟨_, rfl⟩
    have hms : m.state = ch.state := by rw [hm, hx]; rfl
    have hmd : m.cfg.dir = .rx := by rw [hm, hx]; exact hd
    have hmg : m.groups = ch.groups := by rw [hm, hx]; rfl
    have hmlost : m.lost = ch.lost := by rw [hm, hx]; rfl
    have hmq : m.Splits before (q.took false) after := by rw [hm]; exact hxq
    rw [hlost]
    refine ⟨fun h => ?_, fun hhalt hover => ?_⟩
    · rcases h with ⟨hf, ha⟩ | ⟨hc, hflush⟩
      · rw [hflows hf ha]
        obtain ⟨-, -, -, -, hzq, -⟩ := x.reap.dataHalt_spec q.ring
        by_cases hover : (q.took false).over = true
        · have hreap : x.reap = { x with requests := before ++ after, lost := x.lost + BitVec.ofNat 32 q.count } :=
            (hxq.reap hquiet hover).trans (hxq.endRequest_lost hxd (by simp [herror]))
          rw [hreap] at hzq ⊢
          rw [Channel.settle_lost_none (by
            rw [hzq]
            intro p hp
            exact hquiet' p (by rwa [← List.map_append]))]
          have hlosts := Channel.dataHalt_lost
            (ch := { x with requests := before ++ after, lost := x.lost + BitVec.ofNat 32 q.count }) hxd q.ring
          rw [hlosts, hx]
        · have hreap : x.reap = x := Channel.reap_quiet x fun p hp => by
            rw [hxq.1] at hp
            rcases List.mem_append.mp hp with hp | hp
            · exact hquiet p (List.mem_append_left _ hp)
            · rcases List.mem_cons.mp hp with rfl | hp
              · exact Bool.eq_false_iff.mpr hover
              · exact hquiet p (List.mem_append_right _ hp)
          rw [hreap] at hzq ⊢
          rw [(hxq.absorb hzq).settle_lost hquiet' habsorbed herror (by
            rw [Channel.cfg, Channel.dataHalt_config]
            exact hxd), Channel.dataHalt_lost hxd, hx]
          exact add_right_comm _ _ _
      · have hdq : (m.discard false).Splits before (q.took false) after := ⟨(m.discard_requests false).trans hmq.1, hmq.2⟩
        have hdiscard : (m.discard false).lost = ch.lost + BitVec.ofNat 32 ch.groups.length := by
          rw [Channel.discard_lost hmd, hmlost, hmg]
        have hdir : (m.discard false).absorbAll.cfg.dir = .rx := by
          show (m.discard false).cfg.dir = .rx
          rw [Channel.cfg, (m.discard_kept false).config]
          exact hmd
        rw [habsorbs (.inr (.inl hc)), ← hm, Channel.endFlush_flush (hms.trans hc) hflush,
          (hdq.absorb (m.discard false).absorbAll_requests).settle_lost hquiet' habsorbed herror hdir]
        exact (congrArg (fun n => n + BitVec.ofNat 32 q.count) hdiscard).trans (add_right_comm _ _ _)
    · rw [habsorbs (.inl hhalt), ← hm, Channel.endFlush_open (.inl (by rw [hms, hhalt]; decide)),
        hmq.settle_lost hquiet ((DataRequest.over_iff _).mpr ⟨hans, hover⟩) herror hmd, hmlost]
      rfl

end Sys2Proof.Proofs
end

section
/-! PROOFS. The response to a descriptor read (R84 to R87, R97, R98). -/

set_option Elab.async false

namespace Sys2Proof.Machine

/-! ## What a discard makes of the records (R71) -/

theorem List.Forall₂.exists_right {α β : Type} {R : α → β → Prop} {l : List α} {k : List β} (h : List.Forall₂ R l k) {x : α}
    (hx : x ∈ l) : ∃ y ∈ k, R x y := by
  induction h with
  | nil => cases hx
  | cons hxy _ ih =>
    rcases List.mem_cons.mp hx with rfl | hx
    · exact ⟨_, List.mem_cons_self, hxy⟩
    · obtain ⟨y, hy, h⟩ := ih hx
      exact ⟨y, List.mem_cons_of_mem _ hy, h⟩

/-- The second record is the first with other counts of finished frames. -/
def BufferRecord.Finishes (x y : BufferRecord) : Prop :=
  ∃ n es, y = { x with pass := { x.pass with finished := n }, ended := es }

theorem BufferRecord.Finishes.refl (x : BufferRecord) : x.Finishes x := ⟨x.pass.finished, x.ended, rfl⟩

theorem BufferRecord.Finishes.mapPass {x y : BufferRecord} (h : x.Finishes y) (n : Nat) : x.Finishes (y.mapPass n Pass.finishOne) := by
  obtain ⟨m, es, rfl⟩ := h
  unfold BufferRecord.mapPass
  split
  · exact ⟨m + 1, es, rfl⟩
  · exact ⟨m, _, rfl⟩

theorem Channel.mapSource_records {l : List BufferRecord} {ch : Channel} (h : List.Forall₂ BufferRecord.Finishes l ch.list)
    (src : Option Source) : List.Forall₂ BufferRecord.Finishes l (ch.mapSource src Pass.finishOne).list := by
  cases src with
  | none => exact h
  | some x =>
    show List.Forall₂ _ l (ch.list.map _)
    rw [List.forall₂_map_right_iff]
    refine h.imp fun a b hab => ?_
    split
    · exact hab.mapPass _
    · exact hab

theorem Channel.discard_records (ch : Channel) (atHalt : Bool) :
    List.Forall₂ BufferRecord.Finishes ch.list (ch.discard atHalt).list := by
  have hrefl : List.Forall₂ BufferRecord.Finishes ch.list ch.list := List.forall₂_same.mpr fun x _ => .refl x
  have hfold (gs : List Group) (a : Channel) (ha : List.Forall₂ BufferRecord.Finishes ch.list a.list) :
      List.Forall₂ BufferRecord.Finishes ch.list (gs.foldl (fun c g => c.mapSource g.source Pass.finishOne) a).list := by
    induction gs generalizing a with
    | nil => exact ha
    | cons g gs ih => exact ih _ (Channel.mapSource_records ha _)
  unfold Channel.discard
  dsimp only
  split
  · exact hrefl
  · exact hfold ch.groups ch hrefl

theorem Channel.discard_rx_list {ch : Channel} (h : ch.cfg.dir = .rx) (atHalt : Bool) : (ch.discard atHalt).list = ch.list := by
  simp only [Channel.discard, h]

/-! ## Requests absorbed by a halt (R96) -/

section
variable {ch z : Channel}

/-- A request that is over only because no further lane of it is issued is cut: its frames are lost. -/
theorem DataRequest.absorb_cut {q : DataRequest} (h : q.over = false) (ho : q.absorb.over = true) : q.absorb.cut = true := by
  obtain ⟨ha, hl⟩ := (DataRequest.over_iff _).mp ho
  refine hl.resolve_left fun hl => ?_
  have : q.over = true := (DataRequest.over_iff q).mpr ⟨ha, .inl hl⟩
  rw [h] at this
  cases this

theorem Channel.endRequest_cut_list (ch : Channel) {q : DataRequest} (h : q.cut = true) :
    (ch.endRequest q).list = ch.list ∧ (ch.endRequest q).buffersDone = ch.buffersDone := by
  unfold Channel.endRequest
  dsimp only
  split
  · exact ⟨rfl, rfl⟩
  · rw [if_pos (by simp [h])]
    exact ⟨rfl, rfl⟩

/-- The requests that end at a halt leave the records as they are. -/
theorem Channel.reap_absorbed_list (hopen : ∀ q ∈ ch.requests, q.over = false) (hq : z.requests = ch.requests.map DataRequest.absorb) :
    z.reap.list = z.list := by
  have hfold (qs : List DataRequest) (hqs : ∀ q ∈ qs, q.over = true → q.cut = true) (a : Channel) :
      (qs.foldl (fun c q => if q.over then c.endRequest q else c) a).list = a.list := by
    induction qs generalizing a with
    | nil => rfl
    | cons q qs ih =>
      rw [List.foldl_cons, ih fun x hx => hqs x (List.mem_cons_of_mem _ hx)]
      split
      · next ho => exact (a.endRequest_cut_list (hqs q List.mem_cons_self ho)).1
      · rfl
  refine hfold z.requests (fun q hq' ho => ?_) z
  rw [hq] at hq'
  obtain ⟨p, hp, rfl⟩ := List.mem_map.mp hq'
  exact DataRequest.absorb_cut (hopen p hp) ho

/-- A request stays where no request that is over has its number. -/
theorem Channel.reap_keeps {q : DataRequest} (hq : q ∈ z.requests)
    (hid : ∀ p ∈ z.requests, p.over = true → p.id ≠ q.id) : q ∈ z.reap.requests := by
  have hfold (qs : List DataRequest) (hqs : ∀ p ∈ qs, p.over = true → p.id ≠ q.id) (a : Channel) (ha : q ∈ a.requests) :
      q ∈ (qs.foldl (fun c q => if q.over then c.endRequest q else c) a).requests := by
    induction qs generalizing a with
    | nil => exact ha
    | cons p qs ih =>
      refine ih (fun x hx => hqs x (List.mem_cons_of_mem _ hx)) _ ?_
      dsimp only
      split
      · next hp =>
        rw [(a.endRequest_spec p).2.1]
        exact List.mem_filter.mpr ⟨ha, by simpa using Ne.symm (hqs p List.mem_cons_self hp)⟩
      · exact ha
  exact hfold z.requests hid z hq

/-- The requests of a channel are in order: no lane issued beyond the last, and each with a number of its own. -/
abbrev Channel.InOrder (ch : Channel) : Prop :=
  (∀ q ∈ ch.requests, q.issued ≤ q.lanes) ∧ ch.requests.Pairwise fun q q' => q.id ≠ q'.id

/-- After a halt a record is in flight exactly while a transaction of it is unanswered. -/
theorem Channel.inFlight_absorbed (hi : ch.InOrder) (hq : z.requests = ch.requests.map DataRequest.absorb) (r : BufferRecord) :
    z.reap.inFlight r = 0 ↔ ¬ ∃ q ∈ ch.requests, q.ring = r.ring ∧ q.answered ≠ q.issued := by
  rw [Channel.inFlight, List.length_eq_zero_iff, List.filter_eq_nil_iff]
  constructor
  · rintro hnone ⟨q, hmem, hring, hne⟩
    have hopen : q.absorb.over = false := Bool.eq_false_iff.mpr fun ho => hne ((DataRequest.over_iff _).mp ho).1
    have hz : q.absorb ∈ z.requests := hq ▸ List.mem_map_of_mem hmem
    refine hnone q.absorb (Channel.reap_keeps hz fun p hp ho hid => ?_) (beq_iff_eq.mpr hring)
    rw [hq] at hp
    obtain ⟨p', hp', rfl⟩ := List.mem_map.mp hp
    have hsame : p' = q := List.inj_on_of_nodup_map (List.pairwise_map.mpr hi.2) hp' hmem hid
    rw [hsame, hopen] at ho
    cases ho
  · intro hall q hmem hring
    have hopen := z.reap_quiet_after q hmem
    have hin := z.reap_spec.2.1 q hmem
    rw [hq] at hin
    obtain ⟨p, hp, rfl⟩ := List.mem_map.mp hin
    have hans : p.answered = p.issued := by
      by_contra hne
      exact hall ⟨p, hp, beq_iff_eq.mp hring, hne⟩
    rw [DataRequest.absorb_over hans (hi.1 p hp)] at hopen
    cases hopen

end

/-! ## Where a record stands after a settling -/

section
variable {ch : Channel} {r : BufferRecord}

theorem Channel.finished_ending {ch : Channel} (h : r.state = .ending) : ch.finished r = (ch.inFlight r == 0) := by
  simp only [Channel.finished, h]

theorem Channel.finished_untouched {ch : Channel} (h : r.untouched = true) : ch.finished r = (r.finalStatus != .done) := by
  rcases (BufferRecord.untouched_iff r).mp h with h | ⟨why, h⟩ <;> simp only [Channel.finished, h]

theorem Channel.finished_retiring {ch : Channel} (h : r.state = .retiring) : ch.finished r = false := by
  simp only [Channel.finished, h]

theorem Channel.settle_map (ch : Channel) (c : ChanId) : ∃ g : BufferRecord → BufferRecord,
    (ch.settle c).1.list = (ch.reap.list.map g).dropWhile BufferRecord.gone
      ∧ ∀ r, (ch.reap.finished (r.keepPasses ch.reap.cfg.dir) = true →
          ∃ n m, g r = (r.passesLeave c ch.reap.cfg.dir n).retire c ch.reap.cfg.dir m)
        ∧ (ch.reap.finished (r.keepPasses ch.reap.cfg.dir) = false → ∃ n, g r = r.passesLeave c ch.reap.cfg.dir n) := by
  refine ⟨_, rfl, fun r => ⟨fun h => ?_, fun h => ?_⟩⟩
  · dsimp only
    rw [if_pos h]
    exact ⟨_, _, rfl⟩
  · dsimp only
    rw [if_neg (by simp [h])]
    exact ⟨_, rfl⟩

/-- A finished record with a completion to form retires. -/
theorem Channel.settle_retires (c : ChanId) (hr : r ∈ ch.reap.list) (hf : ch.reap.finished (r.keepPasses ch.reap.cfg.dir) = true)
    (hs : r.state ≠ .current) (hd : r.finalStatus ≠ .done) :
    ∃ y ∈ (ch.settle c).1.list, y.ring = r.ring ∧ y.tagAbsent = r.tagAbsent ∧ y.finalStatus = r.finalStatus ∧ y.state = .retiring
      ∧ y.window = none ∧ ∃ m, ∃ x : BufferRecord, (x.ring = r.ring ∧ x.tag = r.tag ∧ x.pass = r.pass)
        ∧ y.completion = some (bufferDone c ch.reap.cfg.dir x r.pass r.finalStatus r.folded m) := by
  obtain ⟨g, hlist, hg⟩ := ch.settle_map c
  obtain ⟨n, m, hval⟩ := (hg r).1 hf
  have hretire := (r.passesLeave c ch.reap.cfg.dir n).retire_formed (n := m) c ch.reap.cfg.dir (.inl hs) (.inr hd)
  rw [hretire] at hval
  refine ⟨g r, hlist ▸ List.mem_dropWhile_of_not (List.mem_map_of_mem hr) (by rw [hval]; simp [BufferRecord.gone]), ?_⟩
  rw [hval]
  exact ⟨rfl, rfl, rfl, rfl, rfl, m, r.passesLeave c ch.reap.cfg.dir n, ⟨rfl, rfl, rfl⟩, rfl⟩

/-- A record that is not finished stays, but for the passes that leave it. -/
theorem Channel.settle_stays (c : ChanId) (hr : r ∈ ch.reap.list) (hf : ch.reap.finished (r.keepPasses ch.reap.cfg.dir) = false)
    (hs : r.state ≠ .retiring ∨ r.completion.isSome = true) :
    ∃ y ∈ (ch.settle c).1.list, y = { r with ended := y.ended, passCpls := y.passCpls } := by
  obtain ⟨g, hlist, hg⟩ := ch.settle_map c
  obtain ⟨n, hval⟩ := (hg r).2 hf
  refine ⟨g r, hlist ▸ List.mem_dropWhile_of_not (List.mem_map_of_mem hr) ?_, by rw [hval]; rfl⟩
  rw [hval]
  show (r.state == .retiring && r.completion.isNone && _) = false
  rcases hs with hs | hs
  · have : (r.state == .retiring) = false := by simpa using hs
    rw [this]
    rfl
  · have : r.completion.isNone = false := by simpa using hs
    rw [this]
    simp

end

/-! ## Records that a halt ends (R97, R98) -/

section
variable {z : Channel} {x r : BufferRecord} {c : ChanId}

/-- The second record reports what the first does. -/
def BufferRecord.SameReport (d : Direction) (x r : BufferRecord) : Prop :=
  r.ring = x.ring ∧ r.tag = x.tag ∧ r.window = x.window ∧ r.pass.count = x.pass.count ∧ r.pass.stamp = x.pass.stamp
    ∧ r.pass.reported d = x.pass.reported d

/-- The completion reports a record as ABORTED. -/
def Completion.Aborts (c : ChanId) (d : Direction) (x : BufferRecord) (done : Completion) : Prop :=
  done.kind = .bufferDone ∧ done.status = .aborted ∧ done.source = BitVec.ofNat 8 c.val ∧ done.ring = x.ring
    ∧ done.tag = x.tag.setWidth 32 ∧ done.v0 = BitVec.ofNat 32 (x.pass.reported d) ∧ done.v1 = report32 x.pass.count
    ∧ done.stamp = x.pass.stamp.getD 0

/-- A record whose outcome a halt has fixed as ABORTED stands so after the settling: ENDING while it waits for its transactions, else
RETIRING with its completion (R96 to R98). -/
theorem Channel.settle_aborted {d : Direction} (hl : z.reap.list = z.list) (hd : z.cfg.dir = d) (hr : r ∈ z.list)
    (hx : x.SameReport d r) (hf : r.finalStatus = .aborted) (he : r.ended = []) {waits : Prop}
    (hw : waits → r.state = .ending ∧ z.reap.finished r = false) (hn : ¬ waits → r.state ≠ .current ∧ z.reap.finished r = true) :
    ∃ y ∈ (z.settle c).1.list, y.ring = x.ring ∧ y.finalStatus = .aborted ∧ (waits → y.state = .ending ∧ y.window = x.window)
      ∧ (¬ waits → y.state = .retiring ∧ y.window = none ∧ ∃ done, y.completion = some done ∧ done.Aborts c d x) := by
  have hdir : z.reap.cfg.dir = d := by rw [Channel.cfg, z.reap_spec.1.config]; exact hd
  have hkeep : r.keepPasses z.reap.cfg.dir = r := r.keepPasses_id _ (by simp [he])
  obtain ⟨hring, htag, hwindow, hcount, hstamp, hreported⟩ := hx
  rw [← hl] at hr
  by_cases h : waits
  · obtain ⟨hs, hfin⟩ := hw h
    obtain ⟨y, hy, hyr⟩ := Channel.settle_stays c hr (by rw [hkeep]; exact hfin) (.inl (by rw [hs]; decide))
    refine ⟨y, hy, ?_, ?_, fun _ => ⟨?_, ?_⟩, fun hno => absurd h hno⟩ <;> rw [hyr]
    · exact hring
    · exact hf
    · exact hs
    · exact hwindow
  · obtain ⟨hs, hfin⟩ := hn h
    obtain ⟨y, hy, hyr, -, hyf, hys, hyw, n, k, ⟨hk, hkt, hkp⟩, hyc⟩ := Channel.settle_retires c hr (by rw [hkeep]; exact hfin) hs
      (by rw [hf]; decide)
    refine ⟨y, hy, hyr.trans hring, hyf.trans hf, fun hwaits => absurd hwaits h, fun _ => ⟨hys, hyw, _, hyc, ?_⟩⟩
    rw [hdir]
    refine ⟨rfl, hf, rfl, hk.trans hring, ?_, ?_, ?_, ?_⟩
    · exact congrArg (BitVec.setWidth 32) (hkt.trans htag)
    · exact congrArg (BitVec.ofNat 32) hreported
    · exact congrArg report32 hcount
    · exact congrArg (Option.getD · 0) hstamp

/-- What a RETIRING record with its completion keeps. -/
theorem Channel.settle_kept (hl : z.reap.list = z.list) (hr : r ∈ z.list) (hs : r.state = .retiring) (hc : r.completion.isSome = true) :
    ∃ y ∈ (z.settle c).1.list, y.ring = r.ring ∧ y.state = .retiring ∧ y.completion = r.completion ∧ y.finalStatus = r.finalStatus := by
  rw [← hl] at hr
  have hstay : (r.keepPasses z.reap.cfg.dir).state = .retiring := hs
  obtain ⟨y, hy, hyr⟩ := Channel.settle_stays c hr (by simp [Channel.finished, hstay]) (.inr hc)
  refine ⟨y, hy, ?_, ?_, ?_, ?_⟩ <;> rw [hyr]
  exact hs

theorem BufferRecord.Finishes.report {x y : BufferRecord} (h : x.Finishes y) (d : Direction) (st : Status) :
    x.SameReport d (y.setFinal st) := by
  obtain ⟨n, es, rfl⟩ := h
  exact ⟨rfl, rfl, rfl, rfl, rfl, by cases d <;> rfl⟩

end

/-! ## The halt at a failed descriptor read (R98) -/

section
variable {ch : Channel} {x : BufferRecord} {c : ChanId}

theorem Channel.descHalt_requests (ch : Channel) : ch.descHalt.requests = ch.requests.map DataRequest.absorb :=
  congrArg (List.map DataRequest.absorb) (ch.discard_requests true)

theorem Channel.descHalt_list (ch : Channel) :
    ch.descHalt.list = (ch.discard true).list.map BufferRecord.descHalted ++ [ch.failedRead] := rfl

theorem Channel.descHalt_config (ch : Channel) : ch.descHalt.config = ch.config := (ch.discard_kept true).config

theorem Channel.descHalt_reap (hopen : ∀ q ∈ ch.requests, q.over = false) : ch.descHalt.reap.list = ch.descHalt.list :=
  Channel.reap_absorbed_list hopen ch.descHalt_requests

/-- The records of the channel as the halt leaves them. -/
theorem Channel.descHalt_mem (hx : x ∈ ch.list) : ∃ y, x.Finishes y ∧ y.descHalted ∈ ch.descHalt.list := by
  obtain ⟨y, hy, hxy⟩ := List.Forall₂.exists_right (ch.discard_records true) hx
  exact ⟨y, hxy, List.mem_append_left _ (List.mem_map_of_mem hy)⟩

/-- A begun record that a halt ends as ABORTED completes at once, or with the last answer of its transactions (R96). -/
theorem Channel.settle_endWith {z : Channel} {y : BufferRecord} (hreq : z.requests = ch.requests.map DataRequest.absorb)
    (hl : z.reap.list = z.list) (hc : z.config = ch.config) (hi : ch.InOrder) (hxy : x.Finishes y) (hy : y.endWith .aborted ∈ z.list)
    (hd : x.finalStatus = .done) : ∃ w ∈ (z.settle c).1.list, w.ring = x.ring ∧ w.finalStatus = .aborted
      ∧ ((∃ q ∈ ch.requests, q.ring = x.ring ∧ q.answered ≠ q.issued) → w.state = .ending ∧ w.window = x.window)
      ∧ (¬ (∃ q ∈ ch.requests, q.ring = x.ring ∧ q.answered ≠ q.issued) → w.state = .retiring ∧ w.window = none
        ∧ ∃ done, w.completion = some done ∧ done.Aborts c ch.cfg.dir x) := by
  have hys : y.finalStatus = x.finalStatus ∧ y.ring = x.ring := by
    obtain ⟨n, es, rfl⟩ := hxy
    exact ⟨rfl, rfl⟩
  have hflight := Channel.inFlight_absorbed hi hreq (y.endWith .aborted)
  rw [show (y.endWith .aborted).ring = x.ring from hys.2] at hflight
  refine Channel.settle_aborted (r := y.endWith .aborted) hl (by rw [Channel.cfg, hc]; rfl) hy
    (hxy.report _ .aborted) (if_pos (hys.1.trans hd)) rfl (fun h => ⟨rfl, ?_⟩) fun h => ⟨nofun, ?_⟩
  · exact Channel.finished_inFlight (fun h0 => hflight.mp h0 h) (.inr (.inr rfl))
  · exact (Channel.finished_ending rfl).trans (beq_iff_eq.mpr (hflight.mpr h))

theorem Channel.descHalt_begun (hopen : ∀ q ∈ ch.requests, q.over = false) (hi : ch.InOrder) (hx : x ∈ ch.list)
    (hs : x.state = .current ∨ x.state = .draining) (hd : x.finalStatus = .done) :
    ∃ y ∈ (ch.descHalt.settle c).1.list, y.ring = x.ring ∧ y.finalStatus = .aborted
      ∧ ((∃ q ∈ ch.requests, q.ring = x.ring ∧ q.answered ≠ q.issued) → y.state = .ending ∧ y.window = x.window)
      ∧ (¬ (∃ q ∈ ch.requests, q.ring = x.ring ∧ q.answered ≠ q.issued) → y.state = .retiring ∧ y.window = none
        ∧ ∃ done, y.completion = some done ∧ done.Aborts c ch.cfg.dir x) := by
  obtain ⟨y, hxy, hy⟩ := Channel.descHalt_mem hx
  have hys : y.state = x.state := by
    obtain ⟨n, es, rfl⟩ := hxy
    rfl
  have hhalted : y.descHalted = y.endWith .aborted := by
    rcases hs with h | h <;> rw [BufferRecord.descHalted, hys, h]
  exact Channel.settle_endWith ch.descHalt_requests (Channel.descHalt_reap hopen) ch.descHalt_config hi hxy (hhalted ▸ hy) hd

/-- Every NEXT record completes ABORTED at once (R98). -/
theorem Channel.descHalt_next (hopen : ∀ q ∈ ch.requests, q.over = false) (hx : x ∈ ch.list) (hs : x.state = .next)
    (hd : x.finalStatus = .done) : ∃ y ∈ (ch.descHalt.settle c).1.list, y.ring = x.ring ∧ y.finalStatus = .aborted
      ∧ (False → y.state = .ending ∧ y.window = x.window) ∧ (¬ False → y.state = .retiring ∧ y.window = none
        ∧ ∃ done, y.completion = some done ∧ done.Aborts c ch.cfg.dir x) := by
  obtain ⟨y, hxy, hy⟩ := Channel.descHalt_mem hx
  have hys : y.state = .next ∧ y.finalStatus = .done := by
    obtain ⟨n, es, rfl⟩ := hxy
    exact ⟨hs, hd⟩
  have hhalted : y.descHalted = y.setFinal .aborted := by rw [BufferRecord.descHalted, hys.1]
  have hst : (y.setFinal .aborted).state = .next := hys.1
  have hfinal : (y.setFinal .aborted).finalStatus = .aborted := if_pos hys.2
  rw [hhalted] at hy
  refine Channel.settle_aborted (r := y.setFinal .aborted) (Channel.descHalt_reap hopen) (by rw [Channel.cfg, ch.descHalt_config]; rfl) hy
    (hxy.report _ .aborted) hfinal rfl False.elim fun _ => ⟨by rw [hst]; decide, ?_⟩
  rw [Channel.finished_untouched ((BufferRecord.untouched_iff _).mpr (.inl hst)), hfinal]
  rfl

theorem BufferRecord.descHalted_retiring {r : BufferRecord} (h : r.state = .retiring) : r.descHalted = r := by
  rw [BufferRecord.descHalted, h]

theorem Channel.descHalt_retiring (hopen : ∀ q ∈ ch.requests, q.over = false) (hx : x ∈ ch.list) (hs : x.state = .retiring)
    (hc : x.completion.isSome = true) : ∃ y ∈ (ch.descHalt.settle c).1.list, y.ring = x.ring ∧ y.state = .retiring
      ∧ y.completion = x.completion ∧ y.finalStatus = x.finalStatus := by
  obtain ⟨y, hxy, hy⟩ := Channel.descHalt_mem hx
  have hys : y.ring = x.ring ∧ y.state = x.state ∧ y.completion = x.completion ∧ y.finalStatus = x.finalStatus := by
    obtain ⟨n, es, rfl⟩ := hxy
    exact ⟨rfl, rfl, rfl, rfl⟩
  obtain ⟨hyr, hyst, hyc, hyf⟩ := hys
  rw [BufferRecord.descHalted_retiring (hyst.trans hs)] at hy
  obtain ⟨w, hw, hwr, hws, hwc, hwf⟩ := Channel.settle_kept (c := c) (Channel.descHalt_reap hopen) hy (hyst.trans hs) (hyc ▸ hc)
  exact ⟨w, hw, hwr.trans hyr, hws, hwc.trans hyc, hwf.trans hyf⟩

/-- The failed read itself is reported (R98). -/
theorem Channel.descHalt_reports (hopen : ∀ q ∈ ch.requests, q.over = false) :
    ∃ y ∈ (ch.descHalt.settle c).1.list, y.ring = ch.fetch ∧ y.tagAbsent = true ∧ y.state = .retiring ∧ y.finalStatus = .busError := by
  have hmem : ch.failedRead ∈ ch.descHalt.reap.list := by
    rw [Channel.descHalt_reap hopen]
    exact List.mem_append_right _ List.mem_cons_self
  obtain ⟨y, hy, hr, ht, hf, hs, -⟩ := Channel.settle_retires c hmem (by
    rw [BufferRecord.keepPasses_id _ _ (by simp [Channel.failedRead])]
    rfl) nofun nofun
  exact ⟨y, hy, hr, ht, hs, hf⟩

theorem Channel.discard_buffersDone (ch : Channel) (atHalt : Bool) : (ch.discard atHalt).buffersDone = ch.buffersDone := by
  have hone (a : Channel) (src : Option Source) : (a.mapSource src Pass.finishOne).buffersDone = a.buffersDone := by
    cases src <;> rfl
  have hfold (gs : List Group) (a : Channel) :
      (gs.foldl (fun c g => c.mapSource g.source Pass.finishOne) a).buffersDone = a.buffersDone := by
    induction gs generalizing a with
    | nil => rfl
    | cons g gs ih => exact (ih _).trans (hone a _)
  unfold Channel.discard
  dsimp only
  split
  · rfl
  · exact hfold ch.groups ch

theorem List.Forall₂.length_filter {α β : Type} {R : α → β → Prop} {l : List α} {k : List β} {p : α → Bool} {q : β → Bool}
    (h : List.Forall₂ R l k) (hp : ∀ x ∈ l, ∀ y, R x y → q y = p x) : (k.filter q).length = (l.filter p).length := by
  induction h with
  | nil => rfl
  | cons hxy _ ih =>
    have hrest := ih fun x hx => hp x (List.mem_cons_of_mem _ hx)
    rw [List.filter_cons, List.filter_cons, hp _ List.mem_cons_self _ hxy]
    split
    · exact congrArg (· + 1) hrest
    · exact hrest

theorem Channel.inFlight_absorb {z : Channel} (h : z.requests = ch.requests.map DataRequest.absorb) {r : BufferRecord}
    (hr : r.ring = x.ring) : z.inFlight r = ch.inFlight x := by
  rw [Channel.inFlight, Channel.inFlight, h, hr, List.filter_map, List.length_map]
  rfl

/-- The records that a settling counts, where no request ends. -/
theorem Channel.settle_counts {z : Channel} (h : ∀ q ∈ z.requests, q.over = false) (c : ChanId) :
    (z.settle c).1.buffersDone = z.buffersDone + BitVec.ofNat 32
      (z.list.filter fun r => !r.state.isPoisoned && z.finished (r.keepPasses z.cfg.dir)).length := by
  unfold Channel.settle
  rw [Channel.reap_quiet z h]
  show addCount z.buffersDone (((z.list.map fun r => r.keepPasses z.cfg.dir).filter z.finished).filter _).length = _
  rw [List.filter_map, List.filter_map, List.length_map, List.filter_filter]
  rfl

/-- The records that complete at once are counted (R98). -/
theorem Channel.descHalt_counts (hquiet : ∀ q ∈ ch.requests, q.answered ≠ q.issued)
    (hrecords : ∀ x ∈ ch.list, ch.finished x = false)
    (hall : ∀ x ∈ ch.list, x.state = .retiring ∨ x.state = .ending ∨ x.state = .next
      ∨ (x.state = .current ∨ x.state = .draining) ∧ x.finalStatus = .done) :
    (ch.descHalt.settle c).1.buffersDone = ch.buffersDone + BitVec.ofNat 32 (ch.list.filter fun x => x.state == .next
      || (x.state == .current || x.state == .draining) && ch.requests.all fun q => q.ring != x.ring).length := by
  have hreq := ch.descHalt_requests
  have hnone : ∀ q ∈ ch.descHalt.requests, q.over = false := by
    rw [hreq]
    intro q hq
    obtain ⟨p, hp, rfl⟩ := List.mem_map.mp hq
    exact Bool.eq_false_iff.mpr fun ho => hquiet p hp ((DataRequest.over_iff _).mp ho).1
  rw [Channel.settle_counts hnone, show ch.descHalt.buffersDone = ch.buffersDone from ch.discard_buffersDone true]
  refine congrArg (fun n => ch.buffersDone + BitVec.ofNat 32 n) ?_
  rw [Channel.descHalt_list, List.filter_append, List.filter_cons_of_neg (by simp [Channel.failedRead, RecState.isPoisoned]),
    List.filter_nil, List.append_nil, List.filter_map, List.length_map]
  refine List.Forall₂.length_filter (ch.discard_records true) fun x hx y hxy => ?_
  have hys : y.state = x.state ∧ y.finalStatus = x.finalStatus ∧ y.ring = x.ring := by
    obtain ⟨n, es, rfl⟩ := hxy
    exact ⟨rfl, rfl, rfl⟩
  obtain ⟨hyst, hyf, hyr⟩ := hys
  have hfin := hrecords x hx
  have hzero : (ch.inFlight x == 0) = ch.requests.all fun q => q.ring != x.ring := by
    rw [Bool.eq_iff_iff]
    simp [Channel.inFlight, List.filter_eq_nil_iff]
  simp only [Function.comp]
  have hbegun (h : x.state = .current ∨ x.state = .draining) : y.descHalted = y.endWith .aborted := by
    rcases h with h | h <;> rw [BufferRecord.descHalted, hyst, h]
  have hending (r : BufferRecord) (hs : r.state = .ending) (hr : r.ring = x.ring) :
      (!r.state.isPoisoned && ch.descHalt.finished (r.keepPasses ch.descHalt.cfg.dir)) = (ch.inFlight x == 0) := by
    have hk : (r.keepPasses ch.descHalt.cfg.dir).state = .ending := hs
    rw [Channel.finished_ending hk, Channel.inFlight_absorb (x := x) hreq (by exact hr), hs]
    rfl
  rcases hall x hx with h | h | h | ⟨h, -⟩
  · rw [BufferRecord.descHalted_retiring (hyst.trans h), Channel.finished_retiring (by exact hyst.trans h), h]
    simp
  · rw [show y.descHalted = y by rw [BufferRecord.descHalted, hyst, h], hending y (hyst.trans h) hyr,
      ← Channel.finished_ending h, hfin, h]
    simp
  · rw [Channel.finished_untouched ((BufferRecord.untouched_iff _).mpr (.inl h))] at hfin
    have hdone : y.finalStatus = .done := hyf.trans (by simpa using hfin)
    have hst : (y.setFinal .aborted).state = .next := hyst.trans h
    have hfinal : (y.setFinal .aborted).finalStatus = .aborted := if_pos hdone
    rw [show y.descHalted = y.setFinal .aborted by rw [BufferRecord.descHalted, hyst, h],
      Channel.finished_untouched ((BufferRecord.untouched_iff _).mpr (.inl (by exact hst))), hst, h]
    show (!RecState.next.isPoisoned && ((y.setFinal .aborted).finalStatus != .done)) = _
    rw [hfinal]
    rfl
  · rw [hbegun h, hending (y.endWith .aborted) rfl hyr, hzero]
    rcases h with h | h <;> simp [h]

end

/-! ## The halt at a poisoned record (R97) -/

section
variable {ch : Channel} {x : BufferRecord} {c : ChanId} {why : HaltCause}

/-- The records as the halt at a poisoned record leaves them. -/
def BufferRecord.poisonHalted (d : Direction) (r : BufferRecord) : BufferRecord :=
  match r.state with
  | .poisoned why => { r with finalStatus := why.status }
  | .draining => if d = .tx then r.endWith .aborted else r
  | _ => r

theorem Channel.poisonHalt_list (ch : Channel) (why : HaltCause) :
    (ch.poisonHalt why).list = (ch.discard true).list.map (BufferRecord.poisonHalted ch.cfg.dir) := rfl

theorem Channel.poisonHalt_requests (ch : Channel) (why : HaltCause) :
    (ch.poisonHalt why).requests = ch.requests.map DataRequest.absorb :=
  congrArg (List.map DataRequest.absorb) (ch.discard_requests true)

theorem Channel.poisonHalt_config (ch : Channel) (why : HaltCause) : (ch.poisonHalt why).config = ch.config :=
  (ch.discard_kept true).config

theorem Channel.poisonHalt_reap (hopen : ∀ q ∈ ch.requests, q.over = false) (why : HaltCause) :
    (ch.poisonHalt why).reap.list = (ch.poisonHalt why).list :=
  Channel.reap_absorbed_list hopen (ch.poisonHalt_requests why)

theorem Channel.poisonHalt_mem (hx : x ∈ ch.list) (why : HaltCause) :
    ∃ y, x.Finishes y ∧ y.poisonHalted ch.cfg.dir ∈ (ch.poisonHalt why).list := by
  obtain ⟨y, hy, hxy⟩ := List.Forall₂.exists_right (ch.discard_records true) hx
  exact ⟨y, hxy, List.mem_map_of_mem hy⟩

theorem HaltCause.status_ne_done (why : HaltCause) : why.status ≠ .done := by cases why <;> decide

/-- The poisoned record is reported with its reason. -/
theorem Channel.poisonHalt_reports (hopen : ∀ q ∈ ch.requests, q.over = false) (hx : x ∈ ch.list) (hs : x.state = .poisoned why)
    (cause : HaltCause) :
    ∃ y ∈ ((ch.poisonHalt cause).settle c).1.list, y.ring = x.ring ∧ y.state = .retiring ∧ y.finalStatus = why.status := by
  obtain ⟨y, hxy, hy⟩ := Channel.poisonHalt_mem hx cause
  have hys : y.ring = x.ring ∧ y.state = x.state := by
    obtain ⟨n, es, rfl⟩ := hxy
    exact ⟨rfl, rfl⟩
  have hhalted : y.poisonHalted ch.cfg.dir = { y with finalStatus := why.status } := by
    rw [BufferRecord.poisonHalted, hys.2, hs]
  have hst : y.state = .poisoned why := hys.2.trans hs
  rw [hhalted, ← Channel.poisonHalt_reap hopen] at hy
  obtain ⟨z, hz⟩ : ∃ z : BufferRecord, z = { y with finalStatus := why.status } := ⟨_, rfl⟩
  have hzs : z.state = .poisoned why := by rw [hz]; exact hst
  have hzf : z.finalStatus = why.status := by rw [hz]
  have hzd : z.finalStatus ≠ .done := hzf ▸ why.status_ne_done
  rw [← hz] at hy
  obtain ⟨w, hw, hwr, -, hwf, hws, -⟩ := Channel.settle_retires c hy
    ((Channel.finished_untouched (r := z.keepPasses _) ((BufferRecord.untouched_iff _).mpr (.inr ⟨why, hzs⟩))).trans
      (bne_iff_ne.mpr hzd))
    (by rw [hzs]; nofun) hzd
  exact ⟨w, hw, hwr.trans ((congrArg BufferRecord.ring hz).trans hys.1), hws, hwf.trans hzf⟩

theorem BufferRecord.poisonHalted_retiring {r : BufferRecord} (h : r.state = .retiring) (d : Direction) : r.poisonHalted d = r := by
  rw [BufferRecord.poisonHalted, h]

theorem Channel.poisonHalt_retiring (hopen : ∀ q ∈ ch.requests, q.over = false) (hx : x ∈ ch.list) (hs : x.state = .retiring)
    (hc : x.completion.isSome = true) (why : HaltCause) : ∃ y ∈ ((ch.poisonHalt why).settle c).1.list, y.ring = x.ring ∧ y.state = .retiring
      ∧ y.completion = x.completion ∧ y.finalStatus = x.finalStatus := by
  obtain ⟨y, hxy, hy⟩ := Channel.poisonHalt_mem hx why
  have hys : y.ring = x.ring ∧ y.state = x.state ∧ y.completion = x.completion ∧ y.finalStatus = x.finalStatus := by
    obtain ⟨n, es, rfl⟩ := hxy
    exact ⟨rfl, rfl, rfl, rfl⟩
  obtain ⟨hyr, hyst, hyc, hyf⟩ := hys
  rw [BufferRecord.poisonHalted_retiring (hyst.trans hs)] at hy
  obtain ⟨w, hw, hwr, hws, hwc, hwf⟩ := Channel.settle_kept (c := c) (Channel.poisonHalt_reap hopen why) hy (hyst.trans hs) (hyc ▸ hc)
  exact ⟨w, hw, hwr.trans hyr, hws, hwc.trans hyc, hwf.trans hyf⟩

/-- A TX DRAINING record completes ABORTED (R97). -/
theorem Channel.poisonHalt_draining_tx (hopen : ∀ q ∈ ch.requests, q.over = false) (hi : ch.InOrder) (hx : x ∈ ch.list)
    (hs : x.state = .draining) (hd : x.finalStatus = .done) (hdir : ch.cfg.dir = .tx) (why : HaltCause) :
    ∃ w ∈ ((ch.poisonHalt why).settle c).1.list, w.ring = x.ring ∧ w.finalStatus = .aborted
      ∧ ((∃ q ∈ ch.requests, q.ring = x.ring ∧ q.answered ≠ q.issued) → w.state = .ending ∧ w.window = x.window)
      ∧ (¬ (∃ q ∈ ch.requests, q.ring = x.ring ∧ q.answered ≠ q.issued) → w.state = .retiring ∧ w.window = none
        ∧ ∃ done, w.completion = some done ∧ done.Aborts c ch.cfg.dir x) := by
  obtain ⟨y, hxy, hy⟩ := Channel.poisonHalt_mem hx why
  have hys : y.state = x.state := by
    obtain ⟨n, es, rfl⟩ := hxy
    rfl
  have hhalted : y.poisonHalted ch.cfg.dir = y.endWith .aborted := by
    rw [BufferRecord.poisonHalted, hys, hs]
    exact if_pos hdir
  exact Channel.settle_endWith (ch.poisonHalt_requests why) (Channel.poisonHalt_reap hopen why) (ch.poisonHalt_config why) hi hxy
    (hhalted ▸ hy) hd

/-- An RX DRAINING record with a write unanswered goes on (R97). -/
theorem Channel.poisonHalt_draining_rx (hopen : ∀ q ∈ ch.requests, q.over = false) (hi : ch.InOrder) (hx : x ∈ ch.list)
    (hs : x.state = .draining) (hdir : ch.cfg.dir = .rx) (hbusy : ∃ q ∈ ch.requests, q.ring = x.ring ∧ q.answered ≠ q.issued)
    (why : HaltCause) : ∃ y ∈ ((ch.poisonHalt why).settle c).1.list, y = { x with ended := y.ended, passCpls := y.passCpls } := by
  have hmem : x ∈ (ch.poisonHalt why).reap.list := by
    rw [Channel.poisonHalt_reap hopen, ch.poisonHalt_list, Channel.discard_rx_list hdir]
    refine List.mem_map.mpr ⟨x, hx, ?_⟩
    rw [BufferRecord.poisonHalted, hs]
    exact if_neg (by rw [hdir]; decide)
  refine Channel.settle_stays c hmem (Channel.finished_inFlight (fun h0 => ?_) (.inr (.inl hs))) (.inl (by rw [hs]; decide))
  exact (Channel.inFlight_absorbed hi (ch.poisonHalt_requests why) x).mp h0 hbusy

end

/-! ## A descriptor joins the list (R84 to R87) -/

section
variable {ch b : Channel} {r x : BufferRecord} {s : State} {tag : TagId} {t : Transaction} {c : ChanId} {bs : List Byte} {w : WinId}

/-- The consumed index does not move while a record joins at the fetch position (R92). -/
theorem consumedIndex_join (l : List BufferRecord) (hs : r.state ≠ .retiring) (hlast : ∀ x, l.getLast? = some x → x.ring + 1 = r.ring)
    (fetch : U16) : consumedIndex (l ++ [r]) fetch = consumedIndex l r.ring := by
  rw [consumedIndex, consumedIndex, List.find?_append]
  cases l.find? fun r => r.state != .retiring with
  | some y => rfl
  | none =>
    rw [List.find?_cons_of_pos (by simpa using hs)]
    cases hl : l.getLast? with
    | none => rfl
    | some y => exact (hlast y hl).symm

/-- A record that is not finished joins a channel with nothing left to settle. -/
theorem Channel.Settled.joined (h : ch.Settled) (ha : ch.state ≠ .closing) (hb : b.state ≠ .closing) (hl : b.list = ch.list ++ [r])
    (hq : b.requests = ch.requests) (hc : b.config = ch.config) (hn : b.consumed = ch.consumed) (hring : r.ring = ch.fetch)
    (hlast : ∀ x, ch.list.getLast? = some x → x.ring + 1 = ch.fetch) (hs : r.state ≠ .retiring) (he : r.ended = [])
    (hf : b.finished r = false) : b.Settled where
  requests := hq ▸ h.requests
  records x hx := by
    rw [hl] at hx
    rcases List.mem_append.mp hx with hx | hx
    · rw [Channel.finished_congr ha hb hq hc]
      exact h.records x hx
    · rw [List.mem_singleton.mp hx]
      exact hf
  passes x hx p hp := by
    rw [hl] at hx
    rcases List.mem_append.mp hx with hx | hx
    · rw [Channel.cfg, hc]
      exact h.passes x hx p hp
    · rw [List.mem_singleton.mp hx, he] at hp
      cases hp
  oldest x hx := by
    rw [hl] at hx
    cases hlist : ch.list with
    | nil =>
      rw [hlist] at hx
      rw [← Option.some.inj hx]
      simp [BufferRecord.gone, hs]
    | cons y ys =>
      rw [hlist] at hx
      exact h.oldest x (by rw [hlist]; exact hx)
  consumed := by rw [hl, consumedIndex_join _ hs (by rw [hring]; exact hlast), hring, hn, h.consumed]

theorem Channel.join_behind (h : ch.current? = some x) : ch.join r = { ch with list := ch.list ++ [r], fetch := ch.fetch + 1 } := by
  simp only [Channel.join, h]

theorem Channel.join_promotes (h : ch.current? = none) :
    ch.join r = ({ ch with list := ch.list ++ [r], fetch := ch.fetch + 1 } : Channel).promote := by
  simp only [Channel.join, h]

theorem BitVec.extractHigh_zero_iff (v : BitVec 8) : v.extractLsb' 2 6 = 0 ↔ v.toNat < 4 := by
  have hv := v.isLt
  rw [← BitVec.toNat_inj, BitVec.extractLsb'_toNat, Nat.shiftRight_eq_div_pow]
  simp only [BitVec.ofNat_eq_ofNat, BitVec.toNat_ofNat]
  omega

/-- The checks of R85 before the window check. -/
theorem descriptorOf_malformed (bs : List Byte) (cfg : ChanConfig) : (descriptorOf bs).malformed cfg = true ↔
    ((byteAt bs 12).toNat ≥ 4 ∨ byteAt bs 13 ≠ 0 ∨ byteAt bs 14 ≠ 0 ∨ byteAt bs 15 ≠ 0 ∨ (u16At bs 8).toNat = 0
      ∨ (u64At bs 0).toNat % (cfg.width / 8) ≠ 0) := by
  have hreserved : (descriptorOf bs).reservedZero = true ↔
      (byteAt bs 12).toNat < 4 ∧ byteAt bs 13 = 0 ∧ byteAt bs 14 = 0 ∧ byteAt bs 15 = 0 := by
    simp only [descriptorOf, Bool.and_eq_true, beq_iff_eq, BitVec.extractHigh_zero_iff, and_assoc]
  have hparts : (descriptorOf bs).malformed cfg = true ↔ ¬ (descriptorOf bs).reservedZero = true ∨ (u16At bs 8).toNat = 0
      ∨ (u64At bs 0).toNat % (cfg.width / 8) ≠ 0 := by
    rw [Descriptor.malformed, Bool.or_eq_true, Bool.or_eq_true, Bool.not_eq_true', Bool.not_eq_true, beq_iff_eq, bne_iff_ne, or_assoc]
    rfl
  rw [hparts, hreserved]
  grind

theorem State.deliver_descRead (hk : t.kind = .descRead) (answer : ReadResult) :
    s.deliver t answer = s.readWhole t answer fun s a => s.descAnswer t a := by simp only [State.deliver, hk]

/-- The response to a descriptor read reaches its channel. -/
theorem State.exec_descReadResponse (hr : s.device.state ≠ .resetting) (he : s.port.entry tag = some t) (hk : t.kind = .descRead)
    {res : ReadResult} (hfit : ∀ bs, res = .okay bs → bs.length = t.length) :
    exec (.descReadResponse tag res) s = .next ((s.answered tag t).descAnswer t res) := by
  rw [exec_response_taken (c := .descReadResponse tag res) rfl he hr, State.deliver_descRead hk]
  cases res with
  | error => rw [State.readWhole_error]
  | okay bs => rw [State.readWhole_okay (s.answered tag t) t bs (fun s a => s.descAnswer t a) (hfit bs rfl)]

theorem State.descAnswer_okay (hc : t.channel = some c) (ho : (s.chan c).descRead = .outstanding) (bs : List Byte) :
    s.descAnswer t (.okay bs) = s.joinDescriptor c bs := by
  simp only [State.descAnswer, hc, if_pos ho]

theorem State.descAnswer_error (hc : t.channel = some c) (ho : (s.chan c).descRead = .outstanding) :
    s.descAnswer t .error = s.update c (({ s.chan c with descRead := .none } : Channel).descHalt, []) := by
  simp only [State.descAnswer, hc, if_pos ho]

theorem State.descAnswer_absorbed (hc : t.channel = some c) (ho : (s.chan c).descRead ≠ .outstanding) (res : ReadResult) :
    s.descAnswer t res = s.update c ({ s.chan c with descRead := .none }, []) := by
  simp only [State.descAnswer, hc, if_neg ho]

/-- The permission a buffer needs (R85). -/
def ChanConfig.access (cfg : ChanConfig) : Access :=
  match cfg.dir with
  | .rx => .write
  | .tx => .read

theorem State.joinDescriptor_malformed (h : (descriptorOf bs).malformed (s.chan c).cfg = true) : s.joinDescriptor c bs
    = s.update c (({ s.chan c with descRead := .none } : Channel).join
        ((descriptorOf bs).record (s.chan c).fetch (.error .badDescriptor)), []) := by
  exact if_pos h

theorem State.joinDescriptor_outside (h : (descriptorOf bs).malformed (s.chan c).cfg = false)
    (hw : s.findWindow (u64At bs 0).toNat ((descriptorOf bs).span (s.chan c).cfg) (s.chan c).cfg.access = none) : s.joinDescriptor c bs
    = s.update c (({ s.chan c with descRead := .none } : Channel).join
        ((descriptorOf bs).record (s.chan c).fetch (.error .windowFault)), []) := by
  unfold State.joinDescriptor
  dsimp only
  rw [if_neg (by rw [show ({ s.chan c with descRead := .none } : Channel).cfg = (s.chan c).cfg from rfl, h]; decide)]
  split
  · rfl
  · next w hsome =>
    cases hw.symm.trans hsome

theorem State.joinDescriptor_valid (h : (descriptorOf bs).malformed (s.chan c).cfg = false)
    (hw : s.findWindow (u64At bs 0).toNat ((descriptorOf bs).span (s.chan c).cfg) (s.chan c).cfg.access = some w) : s.joinDescriptor c bs
    = (s.claim w).update c (({ s.chan c with descRead := .none } : Channel).join
        ((descriptorOf bs).record (s.chan c).fetch (.ok w)), []) := by
  unfold State.joinDescriptor
  dsimp only
  rw [if_neg (by rw [show ({ s.chan c with descRead := .none } : Channel).cfg = (s.chan c).cfg from rfl, h]; decide)]
  split
  · next hnone =>
    cases hw.symm.trans hnone
  · next v hsome =>
    rw [Option.some.inj (hw.symm.trans hsome)]

/-- With no CURRENT record and none before it, a valid record becomes CURRENT at once (R86). -/
theorem Channel.join_current (h : ch.current? = none) (hl : ∀ x ∈ ch.list, x.untouched = false) (hring : ∀ x ∈ ch.list, x.ring ≠ r.ring)
    (hs : r.state = .next) : ch.join r = { ch with
      list := ch.list ++ [{ r with state := .current, pass := { r.pass with gap := r.pass.gap || ch.gapMark } }],
      fetch := ch.fetch + 1, state := .active, gapMark := false } := by
  have hfirst : (ch.list ++ [r]).find? BufferRecord.untouched = some r :=
    find_untouched_behind ch.list [] r hl ((BufferRecord.untouched_iff r).mpr (.inl hs))
  rw [Channel.join_promotes h, Channel.promote_next (ch := { ch with list := ch.list ++ [r], fetch := ch.fetch + 1 }) hfirst hs,
    Channel.mapRecord, Channel.mapRecords]
  dsimp only
  rw [map_ring_of_split (older := ch.list) (newer := []) _ rfl (by simpa using hring), setGap_if]

/-- With no CURRENT record and none before it, a poisoned record halts the channel (R87, R97). -/
theorem Channel.join_halts {why : HaltCause} (h : ch.current? = none) (hl : ∀ x ∈ ch.list, x.untouched = false)
    (hs : r.state = .poisoned why) :
    ch.join r = ({ ch with list := ch.list ++ [r], fetch := ch.fetch + 1 } : Channel).poisonHalt why := by
  have hfirst : (ch.list ++ [r]).find? BufferRecord.untouched = some r :=
    find_untouched_behind ch.list [] r hl ((BufferRecord.untouched_iff r).mpr (.inr ⟨why, hs⟩))
  rw [Channel.join_promotes h, Channel.promote_poisoned (ch := { ch with list := ch.list ++ [r], fetch := ch.fetch + 1 }) hfirst hs]

/-- A halted channel is as it is settled. -/
theorem State.update_halted (hr : s.device.state ≠ .resetting) {y : Channel × List WinId} (hy : y.1.state = .halted) :
    (s.update c y).chan c = (y.1.settle c).1 := by
  refine (s.update_closing hr y).resolve_right fun ⟨hd, _⟩ => ?_
  have hstate := ((Channel.closeDone_iff _).mp hd).1
  rw [((y.1.settle_spec c).1).state, hy] at hstate
  cases hstate

end

end Sys2Proof.Machine

namespace Sys2Proof.Proofs
open Sys2Proof.Machine

/-- Settles O49: the response reaches the channel, and a record joins its list or its halt ends the records. -/
theorem descriptorReadAnswered : Obligations.DescriptorReadAnswered := by
  unfold Obligations.DescriptorReadAnswered
  intro s tag t c hr he hk hc ch free busy frames begun aborted kept counted inOrder hset hstate
  have hsettled : ({ ch with descRead := .none } : Channel).Settled := hset.of_same hstate hstate rfl rfl rfl rfl rfl
  have hopen := hset.requests
  have hfinal (x : BufferRecord) (hx : x ∈ ch.list) (hs : x.state = .next) : x.finalStatus = .done := by
    have hfin := hset.records x hx
    rw [Channel.finished_untouched ((BufferRecord.untouched_iff _).mpr (.inl hs))] at hfin
    simpa using hfin
  refine ⟨fun habsorbed res hfit => ?_, fun hout hrun => ⟨?_, ?_⟩⟩
  · have hnot : (free.chan c).descRead ≠ .outstanding := by rw [show (free.chan c).descRead = .absorbed from habsorbed]; decide
    rw [State.exec_descReadResponse hr he hk hfit, State.descAnswer_absorbed (s := free) hc hnot]
    exact congrArg Host.Outcome.next (State.update_settled free c { ch with descRead := .none } hsettled hstate)
  · obtain ⟨x, hx⟩ : ∃ x : Channel, x = { ch with descRead := .none } := ⟨_, rfl⟩
    have hrow : exec (.descReadResponse tag .error) s = .next (free.update c (x.descHalt, [])) := by
      rw [State.exec_descReadResponse hr he hk (fun _ h => by cases h), State.descAnswer_error (s := free) hc hout, hx]
      rfl
    obtain ⟨u, hu⟩ : ∃ u, u = free.update c (x.descHalt, []) := ⟨_, rfl⟩
    have hview : u.chan c = (x.descHalt.settle c).1 := by rw [hu]; exact State.update_halted (s := free) hr rfl
    have hlist : (u.chan c).list = (x.descHalt.settle c).1.list := congrArg Channel.list hview
    obtain ⟨hsame, -, -⟩ := x.descHalt.settle_spec c
    rw [← hview] at hsame
    have hxo : ∀ q ∈ x.requests, q.over = false := by rw [hx]; exact hopen
    refine ⟨u, hu ▸ hrow, hu ▸ State.update_only _ _ c _ rfl, hsame.state, hsame.haltCause, hsame.fetch.trans (by rw [hx]; rfl),
      hsame.groups.trans (x.discard_groups true), ?_, fun hi y hy ⟨hs, hd⟩ => ?_, fun y hy hs => ?_, fun y hy hs hcpl => ?_,
      fun hall hbusy => ?_⟩
    · rw [hlist, show ch.fetch = x.fetch by rw [hx]]
      exact Channel.descHalt_reports hxo
    · show ∃ z ∈ (u.chan c).list, _
      rw [hlist]
      subst hx
      exact Channel.descHalt_begun (ch := { ch with descRead := .none }) hopen hi hy hs hd
    · show ∃ z ∈ (u.chan c).list, _
      rw [hlist]
      subst hx
      exact Channel.descHalt_next (ch := { ch with descRead := .none }) hopen hy hs (hfinal y hy hs)
    · show ∃ z ∈ (u.chan c).list, _
      rw [hlist]
      subst hx
      exact Channel.descHalt_retiring (ch := { ch with descRead := .none }) hopen hy hs hcpl
    · rw [congrArg Channel.buffersDone hview]
      subst hx
      exact Channel.descHalt_counts (ch := { ch with descRead := .none }) hbusy hsettled.records hall
  · intro bs hlen b address frames malformed access fresh valid poisoned joined claimed answer hlast
    have hrow : answer = .next (free.joinDescriptor c bs) :=
      (State.exec_descReadResponse hr he hk fun _ h => ReadResult.okay.inj h ▸ hlen).trans
        (congrArg _ (State.descAnswer_okay (s := free) hc hout bs))
    have hmal : (descriptorOf bs).malformed ch.cfg = true ↔ malformed := descriptorOf_malformed bs ch.cfg
    have hwell (h : ¬ malformed) : (descriptorOf bs).malformed ch.cfg = false := Bool.eq_false_iff.mpr (mt hmal.mp h)
    have hspan (h : ¬ malformed) (h1 : 1 ≤ ch.cfg.lanes) (h2 : 1 ≤ b) : 1 ≤ frames * ch.cfg.lanes * b := by
      have hf : frames ≠ 0 := fun hz => h (.inr (.inr (.inr (.inr (.inl hz)))))
      exact Nat.mul_pos (Nat.mul_pos (Nat.pos_of_ne_zero hf) h1) h2
    have hwaits (r : BufferRecord) (hu : r.untouched = true) (hf : r.finalStatus = .done) : (joined r).finished r = false := by
      rw [Channel.finished_untouched hu, hf]
      rfl
    refine ⟨fun w x hwf hw h1 h2 hcur => ?_, fun w hwf hw h1 h2 hcur hl hring => ?_, fun x hbad hcur => ?_, fun x hwf hw h1 h2 hcur => ?_,
      fun why st hbad hcur hl => ?_⟩
    · have hfind := (free.findWindow_some address (frames * ch.cfg.lanes * b) access w (hspan hwf h1 h2)).mpr hw
      have hjoin := Channel.join_behind (ch := { ch with descRead := .none }) (r := valid w .next false) hcur
      have hjoined : (joined (valid w .next false)).Settled :=
        hset.joined (r := valid w .next false) hstate hstate rfl rfl rfl rfl rfl hlast nofun rfl (hwaits _ rfl rfl)
      rw [hrow, State.joinDescriptor_valid (s := free) (hwell hwf) hfind]
      exact congrArg Host.Outcome.next ((congrArg (fun x => (claimed w).update c (x, [])) hjoin).trans
        (State.update_settled (claimed w) c (joined (valid w .next false)) hjoined hstate))
    · have hfind := (free.findWindow_some address (frames * ch.cfg.lanes * b) access w (hspan hwf h1 h2)).mpr hw
      have hjoin := Channel.join_current (ch := { ch with descRead := .none }) (r := valid w .next false) hcur hl hring rfl
      obtain ⟨y, hy⟩ : ∃ y : Channel, y = { joined (valid w .current ch.gapMark) with state := .active, gapMark := false } := ⟨_, rfl⟩
      have hys : y.state ≠ .closing := by rw [hy]; nofun
      have hjoined : y.Settled :=
        hset.joined (r := valid w .current ch.gapMark) hstate hys (by rw [hy]) (by rw [hy]) (by rw [hy]) (by rw [hy]) rfl hlast nofun rfl
          (Channel.finished_open rfl hys rfl)
      rw [hrow, State.joinDescriptor_valid (s := free) (hwell hwf) hfind, ← hy]
      refine congrArg Host.Outcome.next ((congrArg (fun x => (claimed w).update c (x, [])) (hjoin.trans ?_)).trans
        (State.update_settled (claimed w) c y hjoined hys))
      rw [hy]
      rfl
    · have hjoin := Channel.join_behind (ch := { ch with descRead := .none }) (r := poisoned .badDescriptor) hcur
      have hjoined : (joined (poisoned .badDescriptor)).Settled :=
        hset.joined (r := poisoned .badDescriptor) hstate hstate rfl rfl rfl rfl rfl hlast nofun rfl (hwaits _ rfl rfl)
      rw [hrow, State.joinDescriptor_malformed (s := free) (hmal.mpr hbad)]
      exact congrArg Host.Outcome.next ((congrArg (fun x => free.update c (x, [])) hjoin).trans
        (State.update_settled free c (joined (poisoned .badDescriptor)) hjoined hstate))
    · have hfind := (free.findWindow_none address (frames * ch.cfg.lanes * b) access (hspan hwf h1 h2)).mpr hw
      have hjoin := Channel.join_behind (ch := { ch with descRead := .none }) (r := poisoned .windowFault) hcur
      have hjoined : (joined (poisoned .windowFault)).Settled :=
        hset.joined (r := poisoned .windowFault) hstate hstate rfl rfl rfl rfl rfl hlast nofun rfl (hwaits _ rfl rfl)
      rw [hrow, State.joinDescriptor_outside (s := free) (hwell hwf) hfind]
      exact congrArg Host.Outcome.next ((congrArg (fun x => free.update c (x, [])) hjoin).trans
        (State.update_settled free c (joined (poisoned .windowFault)) hjoined hstate))
    · obtain ⟨x, hx⟩ : ∃ x : Channel, x = joined (poisoned why) := ⟨_, rfl⟩
      have hjoin := Channel.join_halts (ch := { ch with descRead := .none }) (r := poisoned why) hcur hl rfl
      have hhalts : why.status = st ∧ answer = .next (free.update c (x.poisonHalt why, [])) := by
        rw [hrow, hx]
        rcases hbad with ⟨hbad, rfl, rfl⟩ | ⟨hwf, hw, h1, h2, rfl, rfl⟩
        · rw [State.joinDescriptor_malformed (s := free) (hmal.mpr hbad)]
          exact ⟨rfl, congrArg (fun x => Host.Outcome.next (free.update c (x, []))) hjoin⟩
        · have hfind := (free.findWindow_none address (frames * ch.cfg.lanes * b) access (hspan hwf h1 h2)).mpr hw
          rw [State.joinDescriptor_outside (s := free) (hwell hwf) hfind]
          exact ⟨rfl, congrArg (fun x => Host.Outcome.next (free.update c (x, []))) hjoin⟩
      obtain ⟨hst, hnext⟩ := hhalts
      obtain ⟨u, hu⟩ : ∃ u, u = free.update c (x.poisonHalt why, []) := ⟨_, rfl⟩
      have hview : u.chan c = ((x.poisonHalt why).settle c).1 := by rw [hu]; exact State.update_halted (s := free) hr rfl
      have hlist : (u.chan c).list = ((x.poisonHalt why).settle c).1.list := congrArg Channel.list hview
      obtain ⟨hsame, -, -⟩ := (x.poisonHalt why).settle_spec c
      rw [← hview] at hsame
      have hxo : ∀ q ∈ x.requests, q.over = false := by rw [hx]; exact hopen
      have hxl : x.list = ch.list ++ [poisoned why] := by rw [hx]
      have hmem {y : BufferRecord} (hy : y ∈ ch.list) : y ∈ x.list := hxl ▸ List.mem_append_left _ hy
      have hdir : x.cfg.dir = ch.cfg.dir := by rw [hx]; rfl
      refine ⟨u, hu ▸ hnext, hu ▸ State.update_only _ _ c _ rfl, hsame.state, hsame.haltCause,
        hsame.groups.trans (x.discard_groups true), ?_, fun hi y hy hs hd => ⟨fun htx => ?_, fun hrx hbusy => ?_⟩, fun y hy hs hcpl => ?_⟩
      · rw [hlist, ← hst]
        exact Channel.poisonHalt_reports hxo (hxl ▸ List.mem_append_right _ List.mem_cons_self) rfl why
      · show ∃ z ∈ (u.chan c).list, _
        rw [hlist]
        subst hx
        exact Channel.poisonHalt_draining_tx (ch := joined (poisoned why)) hopen hi (hmem hy) hs hd htx why
      · rw [hlist]
        subst hx
        obtain ⟨z, hz, hzy⟩ := Channel.poisonHalt_draining_rx (c := c) (ch := joined (poisoned why)) hopen hi (hmem hy) hs hrx hbusy why
        refine ⟨z, hz, ?_⟩
        rw [hzy]
        exact ⟨rfl, hs, hd, rfl, rfl⟩
      · show ∃ z ∈ (u.chan c).list, _
        rw [hlist]
        exact Channel.poisonHalt_retiring hxo (hmem hy) hs hcpl why

end Sys2Proof.Proofs
end

section
/-! PROOFS. What a data grant fixes (R73, R75, R77, R78). -/

set_option Elab.async false

namespace Sys2Proof.Machine

/-! ## Changes record by record -/

section
variable {a b ch : Channel} {s : State} {c : ChanId} {f : BufferRecord → BufferRecord}

/-- The second record stands in the list as the first, with the same ended passes. -/
structure BufferRecord.Stands (x y : BufferRecord) : Prop where
  ring : y.ring = x.ring
  retiring : y.state = .retiring ↔ x.state = .retiring
  completion : y.completion = x.completion
  passCpls : y.passCpls = x.passCpls
  ended : y.ended = x.ended
  frames : y.frames = x.frames

theorem BufferRecord.Stands.gone {x y : BufferRecord} (h : x.Stands y) : y.gone = x.gone := by
  have hs : (y.state == .retiring) = (x.state == .retiring) := by
    rw [Bool.eq_iff_iff, beq_iff_eq, beq_iff_eq]
    exact h.retiring
  rw [BufferRecord.gone, BufferRecord.gone, hs, h.completion, h.passCpls]

theorem BufferRecord.Stands.passDone {x y : BufferRecord} (h : x.Stands y) (d : Direction) (p : Pass) :
    y.passDone d p = x.passDone d p := by
  cases d <;> simp only [BufferRecord.passDone, h.frames]

theorem consumedIndex_map {l : List BufferRecord} (h : ∀ x ∈ l, x.Stands (f x)) (fetch : U16) :
    consumedIndex (l.map f) fetch = consumedIndex l fetch := by
  have hsame (x : BufferRecord) (hx : x ∈ l) : ((f x).state != .retiring) = (x.state != .retiring) := by
    rw [Bool.eq_iff_iff, bne_iff_ne, bne_iff_ne]
    exact not_congr (h x hx).retiring
  have hfind : (l.map f).find? (fun r => r.state != .retiring) = (l.find? fun r => r.state != .retiring).map f := by
    rw [List.find?_map]
    exact congrArg (Option.map f) (List.find?_congr hsame)
  rw [consumedIndex, consumedIndex, hfind, List.getLast?_map]
  cases hl : l.find? fun r => r.state != .retiring with
  | some x => exact (h x (List.mem_of_find?_eq_some hl)).ring
  | none =>
    cases hk : l.getLast? with
    | some x => exact congrArg (· + 1) (h x (List.mem_of_getLast? hk)).ring
    | none => rfl

/-- A settled channel whose records stand as before, none of them at its end, is settled. -/
theorem Channel.Settled.mapped (h : a.Settled) (hl : b.list = a.list.map f) (hf : ∀ x ∈ a.list, x.Stands (f x))
    (hq : ∀ q ∈ b.requests, q.over = false) (hfin : ∀ x ∈ a.list, b.finished (f x) = false) (hc : b.config = a.config)
    (hfetch : b.fetch = a.fetch) (hn : b.consumed = a.consumed) : b.Settled where
  requests := hq
  records y hy := by
    rw [hl] at hy
    obtain ⟨x, hx, rfl⟩ := List.mem_map.mp hy
    exact hfin x hx
  passes y hy p hp := by
    rw [hl] at hy
    obtain ⟨x, hx, rfl⟩ := List.mem_map.mp hy
    rw [(hf x hx).ended] at hp
    rw [(hf x hx).passDone, Channel.cfg, hc]
    exact h.passes x hx p hp
  oldest y hy := by
    rw [hl, List.head?_map] at hy
    obtain ⟨x, hx, rfl⟩ := Option.map_eq_some_iff.mp hy
    rw [(hf x (List.mem_of_head? hx)).gone]
    exact h.oldest x hx
  consumed := by rw [hl, consumedIndex_map hf, hfetch, hn, h.consumed]

theorem BufferRecord.Stands.drained {x y : BufferRecord} (h : x.Stands y) : x.Stands y.drained := by
  by_cases hc : y.state = .current
  · have hx : x.state ≠ .retiring := fun hr => RecState.noConfusion (hc.symm.trans (h.retiring.mpr hr))
    rw [BufferRecord.drained_current hc]
    exact ⟨h.ring, ⟨nofun, fun hr => absurd hr hx⟩, h.completion, h.passCpls, h.ended, h.frames⟩
  · rwa [BufferRecord.drained_other hc]

/-- A settled channel whose close has not ended goes back as it is. -/
theorem State.update_standing (h : ch.Settled) (hd : ch.closeDone = false) : s.update c (ch, []) = s.put c ch := by
  by_cases hr : s.device.state = .resetting
  · rw [State.put, if_pos hr]
    exact if_pos hr
  · exact State.update_put hr (h.settle c) hd

theorem Channel.closeDone_of_request {q : DataRequest} (h : q ∈ ch.requests) : ch.closeDone = false :=
  Bool.eq_false_iff.mpr fun hd => by
    obtain ⟨-, hnil, -⟩ := (Channel.closeDone_iff ch).mp hd
    rw [hnil] at h
    cases h

theorem Channel.current?_map (hl : b.list = a.list.map f) (hf : ∀ x, (f x).state = x.state) : b.current? = a.current?.map f := by
  rw [Channel.current?, hl, List.find?_map]
  exact congrArg (fun p => (a.list.find? p).map f) (funext fun x => by rw [Function.comp, hf])

/-- With more requests in flight an unfinished record is not finished either. -/
theorem Channel.finished_more {x : BufferRecord} {qs : List DataRequest} (hq : b.requests = a.requests ++ qs) (hc : b.config = a.config)
    (hs : x.state = .current → a.state ≠ .closing ∧ b.state ≠ .closing) (h : a.finished x = false) : b.finished x = false := by
  have hin : b.inFlight x = a.inFlight x + (qs.filter fun q => q.ring == x.ring).length := by
    rw [Channel.inFlight, Channel.inFlight, hq, List.filter_append, List.length_append]
  have hcfg : b.cfg = a.cfg := by simp only [Channel.cfg, hc]
  cases hx : x.state with
  | current =>
    obtain ⟨ha, hb⟩ := hs hx
    have ha' : (a.state == .closing) = false := by simpa using ha
    have hb' : (b.state == .closing) = false := by simpa using hb
    simp only [Channel.finished, hx, Channel.flushing, Channel.flushOver, ha', hb', hin] at h ⊢
    grind
  | draining =>
    simp only [Channel.finished, hx, hin, hcfg] at h ⊢
    grind
  | ending =>
    simp only [Channel.finished, hx, hin] at h ⊢
    grind
  | next => simpa only [Channel.finished, hx] using h
  | poisoned why => simpa only [Channel.finished, hx] using h
  | retiring => simp only [Channel.finished, hx]

end

/-! ## The first grant of a request (R73, R75) -/

section
variable {ch : Channel} {s : State} {tag : TagId} {pr : Priority} {c : ChanId} {r : BufferRecord} {q : DataRequest}

theorem Priority.cls_eq (pr : Priority) : pr.cls = if pr = .urgent then 1 else 2 := by cases pr <;> rfl

theorem State.grantChosen_data {x : Channel} {i : Issue} {t : Transaction} (h : (s.chan c).dataGrant = (x, some i))
    (ht : dataTransaction (s.chan c).cfg pr c i = t) :
    s.grantChosen tag (.data pr c) = ({ s with port := s.port.dataGranted tag pr c t } : State).update c (x, []) := by
  have hcls : t.cls ≠ 3 := by
    rw [← ht]
    cases pr <;> simp [dataTransaction, Priority.cls]
  have hchan : t.channel = some c := ht ▸ rfl
  show s.grantData tag pr c = _
  simp only [State.grantData, h, ht]
  rw [Port.enter_data _ _ _ _ _ hchan hcls]
  rfl

theorem Channel.dataGrant_first (hq : ∀ q ∈ ch.requests, q.inFormation = false) (hc : ch.current? = some r) :
    ch.dataGrant = ((ch.firstGrant r).1, some (ch.firstGrant r).2) := by
  have hnone : ch.formation = none := List.find?_eq_none.mpr fun q h => by simp [hq q h]
  simp only [Channel.dataGrant, hnone, hc]

/-- One more transaction of a request is issued (R78). -/
theorem Channel.Splits.issue {before after : List DataRequest} (h : ch.Splits before q after) :
    (ch.requests.map fun x => if x.id = q.id then { x with issued := x.issued + 1 } else x)
      = before ++ { q with issued := q.issued + 1 } :: after := by
  obtain ⟨hq, hids⟩ := h
  have hid (l : List DataRequest) (hl : ∀ x ∈ l, x.id ≠ q.id) :
      (l.map fun x => if x.id = q.id then { x with issued := x.issued + 1 } else x) = l :=
    (List.map_congr_left fun x hx => if_neg (hl x hx)).trans (List.map_id' l)
  rw [hq, List.map_append, List.map_cons, hid before fun x hx => hids x (List.mem_append_left _ hx),
    hid after fun x hx => hids x (List.mem_append_right _ hx), if_pos rfl]

theorem Channel.Holds.find {older newer : List BufferRecord} {ring : U16} (h : ch.Holds older r newer) (hr : r.ring = ring) :
    (ch.list.find? fun x => x.ring == ring) = some r := by
  obtain ⟨hl, hrings⟩ := h
  rw [hl, List.find?_append, List.find?_eq_none.mpr fun x hx => by simpa [← hr] using hrings x (List.mem_append_left _ hx),
    Option.none_or, List.find?_cons_of_pos (by simp [hr])]

theorem Channel.dataGrant_lane (hq : ch.formation = some q) : ch.dataGrant = ch.laneGrant q := by
  simp only [Channel.dataGrant, hq]

end

end Sys2Proof.Machine

namespace Sys2Proof.Proofs
open Sys2Proof.Machine

/-- Settles O42: the issue and the progress of a first grant, and the later lanes of a PLANAR request. -/
theorem dataGrantsFixContent : Obligations.DataGrantsFixContent := by
  unfold Obligations.DataGrantsFixContent
  refine ⟨?_, ?_⟩
  · intro s tag pr c r ch n b left whole rx f hform hcur groups q t issuing granted
    have hfirst : ch.firstGrant r = (issuing.passEnd, issueOf ch.cfg r q 0) := by
      have hflush : (ch.state == .closing) = decide (ch.state = .closing) := rfl
      simp only [Channel.firstGrant, Channel.mapCurrent, Channel.mapRecords, hflush]
      cases hd : ch.cfg.dir <;> cases hlay : ch.cfg.layout <;>
        simp only [issuing, q, groups, f, rx, whole, left, hd, hlay, Channel.grantFrames, ChanConfig.transactions, if_true, true_and] <;> rfl
    have ht : dataTransaction ch.cfg pr c (issueOf ch.cfg r q 0) = t := by
      cases hd : ch.cfg.dir <;> cases hlay : ch.cfg.layout <;>
        simp only [dataTransaction, issueOf, t, q, rx, b, n, hd, hlay, if_true, Nat.zero_mul, Nat.zero_add, pr.cls_eq] <;> rfl
    have hrow : s.grantChosen tag (.data pr c) = granted.update c (issuing.passEnd, []) :=
      State.grantChosen_data (by rw [Channel.dataGrant_first hform hcur, hfirst]) ht
    obtain ⟨g, hg⟩ : ∃ g : BufferRecord → BufferRecord, g = fun x => if x.state = .current then
        { x with pass := { x.pass with
            issued := x.pass.issued + f
            stamp := if rx ∧ r.pass.issued = 0 then (ch.groups.take f).head?.bind Group.stamp else r.pass.stamp } } else x := ⟨_, rfl⟩
    have hlist : issuing.list = ch.list.map g := by rw [hg]
    have hopened (x : BufferRecord) : x.AsOpen ch.cfg.dir (g x) := by
      rw [hg]
      dsimp only
      split
      · exact .of_pass x _ rfl
      · exact .refl _ x
    have hstands (x : BufferRecord) : x.Stands (g x) := by
      rw [hg]
      dsimp only
      split <;> exact ⟨rfl, .rfl, rfl, rfl, rfl, rfl⟩
    have hcurrent : issuing.current? = some (g r) := by
      rw [Channel.current?_map hlist fun x => (hopened x).state, hcur]
      rfl
    have hgr : (g r).frames = r.frames ∧ (g r).pass.issued = r.pass.issued + f ∧ (g r).repeated = r.repeated := by
      rw [hg]
      simp [Channel.current?_state hcur]
    have hnew : q ∈ issuing.requests := List.mem_append_right _ List.mem_cons_self
    have hover : (∀ x ∈ ch.requests, x.over = false) → ∀ x ∈ issuing.requests, x.over = false := fun h x hx => by
      rcases List.mem_append.mp hx with hx | hx
      · exact h x hx
      · rw [List.mem_singleton.mp hx]
        exact Bool.eq_false_iff.mpr fun ho => absurd ((DataRequest.over_iff q).mp ho).1 (by simp [q])
    refine ⟨hrow, fun hset hclosing => ⟨fun hmore => ?_, fun hend hact hrep hbegun hone => ?_⟩⟩
    · rw [hrow, Channel.passEnd_before fun x hx => by
        rw [← Option.some.inj (hcurrent.symm.trans hx), hgr.1, hgr.2.1]
        exact hmore]
      refine State.update_standing (hset.mapped hlist (fun x _ => hstands x) (hover hset.requests) (fun x hx => ?_) rfl rfl rfl)
        (Channel.closeDone_of_request hnew)
      by_cases hc : x.state = .current ∧ ch.state = .closing
      · exact Channel.finished_inFlight (Channel.inFlight_of_mem hnew
          ((hopened x).ring.trans (hclosing hc.2 x hx hc.1)).symm) (.inl ((hopened x).state.trans hc.1))
      · refine Channel.finished_more (a := ch) rfl rfl (fun hs => ?_) (Channel.finished_asOpen (hopened x) (hset.records x hx))
        have hnc : ch.state ≠ .closing := fun h => hc ⟨(hopened x).state.symm.trans hs, h⟩
        exact ⟨hnc, hnc⟩
    · have hstate : issuing.state ≠ .closing := fun h => ChanState.noConfusion (hact.symm.trans h)
      have hquiet : issuing.drain.list.find? BufferRecord.untouched = none := by
        rw [Channel.drain_list, hlist, List.find?_eq_none]
        intro y hy
        obtain ⟨z, hz, rfl⟩ := List.mem_map.mp hy
        obtain ⟨x, hx, rfl⟩ := List.mem_map.mp hz
        have hfree := hbegun x hx
        rw [← Bool.not_eq_true, BufferRecord.untouched_iff, ← (hopened x).state, ← BufferRecord.untouched_iff] at hfree
        by_cases hc : (g x).state = .current
        · rw [BufferRecord.drained_current hc]
          nofun
        · rwa [BufferRecord.drained_other hc]
      have hpass : issuing.passEnd = { issuing with state := .starved, list := issuing.list.map BufferRecord.drained } := by
        rw [Channel.passEnd_last hcurrent (by rw [hgr.1, hgr.2.1]; exact hend.ge) hstate (.inl (hgr.2.2.trans hrep)),
          Channel.promote_none hquiet]
        rfl
      obtain ⟨y, hy⟩ : ∃ y : Channel, y = { issuing with state := .starved, list := issuing.list.map BufferRecord.drained } := ⟨_, rfl⟩
      have hyl : y.list = ch.list.map fun x => (g x).drained := by rw [hy, hlist, List.map_map]; rfl
      have hyq : y.requests = issuing.requests := by rw [hy]
      have hyc : y.config = ch.config := by rw [hy]
      have hys : y.state = .starved := by rw [hy]
      have hset' : y.Settled := by
        refine hset.mapped hyl (fun x _ => (hstands x).drained) (hyq ▸ hover hset.requests) (fun x hx => ?_) hyc (by rw [hy]) (by rw [hy])
        by_cases hc : x.state = .current
        · rw [BufferRecord.drained_current ((hopened x).state.trans hc)]
          exact Channel.finished_inFlight (Channel.inFlight_of_mem (hyq ▸ hnew) ((hopened x).ring.trans (hone x hx hc)).symm) (.inr (.inl rfl))
        · rw [BufferRecord.drained_other fun h => hc ((hopened x).state.symm.trans h)]
          exact Channel.finished_more (a := ch) hyq hyc (fun hs => absurd ((hopened x).state.symm.trans hs) hc)
            (Channel.finished_asOpen (hopened x) (hset.records x hx))
      rw [hrow, hpass, ← hy, State.update_standing hset' (Channel.closeDone_of_request (hyq ▸ hnew)), hy]
      rfl
  · intro s tag pr c r before after q older newer ch b hset hstate hlay hq hq' hbefore hans hl hring t
    have hform : ch.formation = some q := by
      rw [Channel.formation, hq.1, List.find?_append, List.find?_eq_none.mpr fun x hx => by simp [hbefore x hx], Option.none_or,
        List.find?_cons_of_pos hq']
    have hlane : ch.laneGrant q = ({ ch with requests := before ++ { q with issued := q.issued + 1 } :: after },
        some (issueOf ch.cfg r q q.issued)) := by
      rw [Channel.laneGrant, hq.issue, hl.find hring]
      rfl
    have ht : dataTransaction ch.cfg pr c (issueOf ch.cfg r q q.issued) = t := by
      cases hd : ch.cfg.dir <;> simp only [dataTransaction, issueOf, t, b, hd, hlay, if_true, pr.cls_eq] <;> rfl
    rw [State.grantChosen_data ((Channel.dataGrant_lane hform).trans hlane) ht]
    obtain ⟨y, hy⟩ : ∃ y : Channel, y = { ch with requests := before ++ { q with issued := q.issued + 1 } :: after } := ⟨_, rfl⟩
    have hyq : y.requests = before ++ { q with issued := q.issued + 1 } :: after := by rw [hy]
    have hyc : y.config = ch.config := by rw [hy]
    have hflags : y.flushing = ch.flushing ∧ y.flushOver = ch.flushOver := by
      refine Channel.flush_same ?_ ?_ ?_ hyc <;> rw [hy]
    have hsettled : y.Settled := by
      refine hset.mapped (f := id) (by rw [hy, List.map_id]) (fun x _ => ⟨rfl, .rfl, rfl, rfl, rfl, rfl⟩) (fun x hx => ?_) (fun x hx => ?_)
        hyc (by rw [hy]) (by rw [hy])
      · rw [hyq] at hx
        rcases List.mem_append.mp hx with hx | hx
        · exact hset.requests x (hq.mem (List.mem_append_left _ hx))
        · rcases List.mem_cons.mp hx with rfl | hx
          · exact Bool.eq_false_iff.mpr fun ho => absurd ((DataRequest.over_iff _).mp ho).1 (Nat.ne_of_lt (Nat.lt_succ_of_le hans))
          · exact hset.requests x (hq.mem (List.mem_append_right _ hx))
      · rw [id, Channel.finished_same (hq.inFlight_kept (q' := { q with issued := q.issued + 1 }) rfl hyq x) hflags.1 hflags.2 hyc]
        exact hset.records x hx
    rw [← hy]
    exact State.update_settled _ c y hsettled (by rw [hy]; exact hstate)

end Sys2Proof.Proofs
end

section
/-! PROOFS. The bit clocks of a link (R6 to R11, R13, R68). -/

set_option Elab.async false

namespace Sys2Proof.Machine

/-! ## Rows -/

section
variable {s t : State} {l : LinkId} {cfg : LinkConfig} {k : SlotId} {c : Instr}

theorem runRows_cons (h : exec c s = .next t) (cs : List Instr) : runRows (c :: cs) s = runRows cs t := by
  simp only [runRows, h]

theorem runRows_single (h : exec c s = .next t) : runRows [c] s = some t := runRows_cons h []

/-! ## The launch of a slot (R13) -/

/-- The link stands before the launch of the slot, every slot before it having completed (R13). -/
structure Link.AtSlot (x : Link) (cfg : LinkConfig) (k : SlotId) : Prop where
  locked : x.state = .locked
  config : x.config = some cfg
  inFrame : k.val < cfg.slots
  launched : x.launched = k.val
  completed : x.completed = k.val

theorem State.exec_launch (h : (s.link l).AtSlot cfg k) : exec (.transmitSlotLaunch l k) s = .next (s.transmitSlot l k cfg) := by
  have hdue : (s.link l).mayLaunch k.val = true := by simp [Link.mayLaunch, h.launched, h.completed]
  have hslot : s.lockedSlot l k ((s.link l).mayLaunch k.val) = some cfg := by
    rw [State.lockedSlot, if_pos ⟨h.locked, hdue⟩, h.config]
    simp [h.inFrame]
  show Host.Outcome.next _ = _
  rw [hslot]

theorem fin128_of_eq {n : Nat} (h : n = k.val) : (Fin.ofNat 128 n : SlotId) = k := Fin.ext (by rw [h, fin128_val k.isLt])

/-- The launch that is due where the link stands is made by the bit clock (R13). -/
theorem State.raiseDue_atSlot (h : (s.link l).AtSlot cfg k) (hp : (s.link l).bitPos = some (k.val * cfg.width)) (hw : 0 < cfg.width) :
    s.raiseDue l = s.transmitSlot l k cfg := by
  have hplace : (s.link l).place = some (cfg, k.val * cfg.width) := (Link.place_eq_some _ _ _).mpr ⟨h.locked, h.config, hp⟩
  have hdiv : k.val * cfg.width / cfg.width = k.val := Nat.mul_div_cancel _ hw
  rw [State.raiseDue_launches hplace (by rw [hdiv, h.completed]) (by rw [hdiv, h.launched]), fin128_of_eq hdiv]

/-- A launch takes no account of the bit position. -/
theorem State.transmitSlot_bitPos (s : State) (l : LinkId) (k : SlotId) (cfg : LinkConfig) (q : Option Nat) :
    (s.setLink l { s.link l with bitPos := q }).transmitSlot l k cfg = s.transmitSlot l k cfg := by
  simp only [State.transmitSlot, State.setLink_link_same, State.setLink_setLink]
  rfl

/-! ## The frame starts (R7 to R11) -/

/-- A row that starts a frame, and the launch of slot 0 in it. -/
theorem runRows_start (hrow : exec c s = .next t) (h : (t.link l).AtSlot cfg 0) (hp : (t.link l).bitPos = some 0) (hw : 0 < cfg.width) :
    runRows [c, .transmitSlotLaunch l 0] s = some (t.raiseDue l) := by
  rw [runRows_cons hrow, runRows_single (State.exec_launch h), State.raiseDue_atSlot h (by simpa using hp) hw]

/-- A sync pulse locks a HUNTING link (R8). -/
theorem runRows_lock (hst : (s.link l).state = .hunting) (hc : (s.link l).config = some cfg) (hr : cfg.role = .roleIn)
    (hn : 0 < cfg.slots) (hw : 0 < cfg.width) :
    runRows [.syncPulseLock l, .transmitSlotLaunch l 0] s = some ((s.lockLink l).raiseDue l) := by
  have hrole : (s.link l).role = some .roleIn := (Link.role_of hc).trans (congrArg some hr)
  have hlock : s.lockLink l = s.setLink l ((s.link l).pulseFrame.note .locked) := if_pos ⟨hst, hrole⟩
  have hlink : (s.lockLink l).link l = (s.link l).pulseFrame.note .locked := by rw [hlock, State.setLink_link_same]
  refine runRows_start (t := s.lockLink l) rfl ?_ ?_ hw <;> rw [hlink]
  · exact ⟨rfl, hc, hn, rfl, rfl⟩
  · rfl

/-- A sync pulse off the boundary starts a frame (R11). -/
theorem runRows_slip {p : Nat} (hst : (s.link l).state = .locked) (hc : (s.link l).config = some cfg) (hr : cfg.role = .roleIn)
    (hp : (s.link l).bitPos = some p) (hoff : p + 1 ≠ cfg.frameLength) (hl : 0 < (s.link l).launched) (hn : 0 < cfg.slots)
    (hw : 0 < cfg.width) : runRows [.slip l, .transmitSlotLaunch l 0] s = some ((s.slip l).raiseDue l) := by
  have hlock : (s.link l).lockedAs .roleIn = true := (Link.lockedAs_iff _ _).mpr ⟨hst, by rw [hc, ← hr]; rfl⟩
  have hat : (s.link l).offBoundary = true := by
    refine (Link.offBoundary_iff _).mpr ⟨hl, fun hlast => ?_⟩
    obtain ⟨cfg', hc', hb'⟩ := (Link.atLastBit_iff _).mp hlast
    cases hc.symm.trans hc'
    have hpos : 0 < cfg.slots * cfg.width := Nat.mul_pos hn hw
    have hpe : p = cfg.slots * cfg.width - 1 := Option.some.inj (hp.symm.trans hb')
    exact hoff (by rw [LinkConfig.frameLength]; omega)
  have hslip : s.slip l = ((s.notify (s.map l).active Channel.cutShort).setLink l
      { (s.link l).pulseFrame.note .slip with txd := none }).performPending l .frameStart := if_pos ⟨hlock, hat⟩
  have hlink : (s.slip l).link l = { (s.link l).pulseFrame.note .slip with txd := none } := by
    rw [hslip]
    exact (State.setLink_performPending_framed _ l _ .frameStart).2.1
  refine runRows_start (t := s.slip l) rfl ?_ ?_ hw <;> rw [hlink]
  · exact ⟨rfl, hc, hn, rfl, rfl⟩
  · rfl

/-- The rows of a frame boundary (R7, R9, R10). -/
theorem runRows_boundary {missed : Nat} {low : Bool} (hrow : exec c s = .next t) (hst : (s.link l).state = .locked)
    (hc : (s.link l).config = some cfg) (hb : (s.link l).bitPos = some (cfg.slots * cfg.width - 1)) (hn : (s.link l).completed = cfg.slots)
    (h : c = .syncOnTime l ∧ cfg.role = .roleIn ∧ missed = 0 ∧ low = false
      ∨ c = .freewheel l ∧ cfg.role = .roleIn ∧ (s.link l).missed = 0 ∧ missed = 1 ∧ low = (s.link l).fsyLow
      ∨ c = .frameBoundaryOut l ∧ cfg.role = .roleOut ∧ missed = 0 ∧ low = (s.link l).fsyLow) (hslots : 0 < cfg.slots) (hw : 0 < cfg.width) :
    runRows [c, .transmitSlotLaunch l 0] s = some (t.raiseDue l) := by
  have hnext : t = s.nextFrame l ((s.link l).starting missed low) :=
    Host.Outcome.next.inj (hrow.symm.trans (State.exec_frameStart hst hc hb hn h))
  have hlink : t.link l = (s.link l).starting missed low := by
    rw [hnext]
    exact (State.setLink_performPending_framed s l _ .frameStart).2.1
  refine runRows_start hrow ?_ ?_ hw <;> rw [hlink]
  · exact ⟨rfl, hc, hslots, rfl, rfl⟩
  · rfl

/-- Behind a loss the link is not LOCKED (R10). -/
theorem State.linkLoss_hunts (hat : (s.link l).boundaryAs .roleIn = true) (hm : (s.link l).missed = 1) :
    ((s.linkLoss l).link l).state ≠ .locked := by
  have hloss : s.linkLoss l
      = ((s.setLink l (s.link l).afterLoss).performPending l .loss).notify (s.map l).active Channel.linkDown :=
    if_pos ⟨hat, by rw [hm]; rfl⟩
  rw [hloss, State.notify_link, (State.setLink_performPending_framed s l _ .loss).2.1]
  nofun

end

/-! ## The parts of a bit clock -/

section
variable {s t : State} {b : BitClock} {cfg : LinkConfig} {p : Nat} {pulse : Bool} {l : LinkId}

/-- The samples, where the role OUT is told by `out` (R6, R7). -/
theorem Link.sampled_eq (x : Link) (b : BitClock) (out : Prop) [Decidable out] (h : out ↔ x.config.map LinkConfig.role = some .roleOut) :
    x.sampled b = { x with fsyLow := !b.fsy && !decide out, rxBits := (x.rxBits <<< 1) ||| (if b.rxd then 1 else 0) } := by
  have hrole : (x.role != some .roleOut) = !decide out := by
    rw [Bool.eq_iff_iff, bne_iff_ne, Bool.not_eq_true', decide_eq_false_iff_not, h]
    rfl
  have hbit : (BitVec.ofBool b.rxd).setWidth 16 = if b.rxd then (1 : U16) else 0 := by cases b.rxd <;> rfl
  rw [Link.sampled, hrole, hbit]

/-- What the bit clock makes of the link behind the samples. -/
theorem State.bitClock_locked (h : s.device.resetLow = false) (ht : (s.raiseDue b.link).endSlotHere b.link = t)
    (hl : (t.link b.link).state = .locked) : s.bitClock b
      = ((t.setLink b.link ((t.link b.link).sampled b)).advance b.link (b.fsy && (s.link b.link).fsyLow)).raiseDue b.link := by
  simp only [State.bitClock, h, ht, State.setLink_link_same, Link.sampled_state, hl, Bool.false_eq_true, if_false]

theorem State.bitClock_hunting (h : s.device.resetLow = false) (hl : (s.link b.link).state = .hunting) : s.bitClock b
    = (if b.fsy && (s.link b.link).fsyLow then (s.setLink b.link ((s.link b.link).sampled b)).lockLink b.link
      else s.setLink b.link ((s.link b.link).sampled b)).raiseDue b.link := by
  have hn : (s.link b.link).state ≠ .locked := by rw [hl]; decide
  simp only [State.bitClock, h, s.raiseDue_of_not_locked _ hn, s.endSlotHere_of_not_locked _ hn, State.setLink_link_same,
    Link.sampled_state, hl, Bool.false_eq_true, if_false]

/-- The bit clock looks at the part through the events that are due, and at FSY as it was sampled before. -/
theorem State.bitClock_congr (hd : t.device.resetLow = s.device.resetLow) (hf : (t.link b.link).fsyLow = (s.link b.link).fsyLow)
    (hr : t.raiseDue b.link = s.raiseDue b.link) (hlow : s.device.resetLow = false) : t.bitClock b = s.bitClock b := by
  simp only [State.bitClock, hd, hf, hr, hlow, Bool.false_eq_true, if_false]

theorem State.advance_within (h : (s.link l).place = some (cfg, p)) (hp : p + 1 ≠ cfg.frameLength)
    (hs : ¬ (pulse = true ∧ cfg.role = .roleIn)) : s.advance l pulse = s.setLink l { s.link l with bitPos := some (p + 1) } := by
  simp only [State.advance, h, if_neg hp, if_neg hs]

theorem State.advance_slip (h : (s.link l).place = some (cfg, p)) (hp : p + 1 ≠ cfg.frameLength)
    (hs : pulse = true ∧ cfg.role = .roleIn) : s.advance l pulse = s.slip l := by
  simp only [State.advance, h, if_neg hp, if_pos hs]

theorem State.advance_out (h : (s.link l).place = some (cfg, p)) (hp : p + 1 = cfg.frameLength) (hr : cfg.role = .roleOut) :
    s.advance l pulse = s.frameBoundaryOut l := by
  simp only [State.advance, h, if_pos hp, hr]

theorem State.advance_onTime (h : (s.link l).place = some (cfg, p)) (hp : p + 1 = cfg.frameLength) (hr : cfg.role = .roleIn) :
    s.advance l true = s.syncOnTime l := by
  simp only [State.advance, h, if_pos hp, hr, if_true]

theorem State.advance_missed (h : (s.link l).place = some (cfg, p)) (hp : p + 1 = cfg.frameLength) (hr : cfg.role = .roleIn) :
    s.advance l false = if (s.link l).missed + 1 < missedSyncLimit then s.freewheel l else s.linkLoss l := by
  simp only [State.advance, h, if_pos hp, hr, Bool.false_eq_true, if_false]

end

/-! ## The slot in which a link stands -/

section
variable {s : State} {l : LinkId} {cfg : LinkConfig} {k : SlotId} {p : Nat}

/-- The link stands in a slot that has been launched, every slot before it having completed (R13). -/
structure Link.InSlot (x : Link) (cfg : LinkConfig) (k : SlotId) (p : Nat) : Prop where
  locked : x.state = .locked
  config : x.config = some cfg
  bitPos : x.bitPos = some p
  lower : k.val * cfg.width ≤ p
  upper : p < (k.val + 1) * cfg.width
  inFrame : k.val < cfg.slots
  launched : x.launched = k.val + 1
  completed : x.completed = k.val ∨ x.completed = k.val + 1

theorem Link.InSlot.place {x : Link} (h : x.InSlot cfg k p) : x.place = some (cfg, p) :=
  (Link.place_eq_some _ _ _).mpr ⟨h.locked, h.config, h.bitPos⟩

theorem Link.InSlot.div {x : Link} (h : x.InSlot cfg k p) : p / cfg.width = k.val := Nat.div_eq_of_lt_le h.lower h.upper

theorem Link.InSlot.open {x : Link} (h : x.InSlot cfg k p) : k.val ≤ x.completed := by
  rcases h.completed with h | h <;> rw [h]
  exact Nat.le_succ _

theorem Link.InSlot.sampled {x : Link} (h : x.InSlot cfg k p) (b : BitClock) : (x.sampled b).InSlot cfg k p :=
  ⟨h.locked, h.config, h.bitPos, h.lower, h.upper, h.inFrame, h.launched, h.completed⟩

/-- Another bit position of the slot. -/
theorem Link.InSlot.at {x : Link} (h : x.InSlot cfg k p) {q : Nat} (hlo : k.val * cfg.width ≤ q) (hhi : q < (k.val + 1) * cfg.width) :
    ({ x with bitPos := some q } : Link).InSlot cfg k q :=
  ⟨h.locked, h.config, rfl, hlo, hhi, h.inFrame, h.launched, h.completed⟩

/-- Nothing is due in a slot that has been launched (R13). -/
theorem State.raiseDue_inSlot (h : (s.link l).InSlot cfg k p) : s.raiseDue l = s :=
  s.raiseDue_of_raised l cfg p h.place (by rw [h.div, h.launched]; exact Nat.lt_succ_self _) (by rw [h.div]; exact h.open)

theorem State.endSlotHere_within (h : (s.link l).InSlot cfg k p) (hp : p + 1 < (k.val + 1) * cfg.width) : s.endSlotHere l = s := by
  have hmod : ¬ (p + 1) % cfg.width = 0 := fun hz => by
    obtain ⟨n, hn⟩ := Nat.dvd_of_mod_eq_zero hz
    rw [hn, Nat.mul_comm] at hp
    have hlow := Nat.lt_succ_of_le h.lower
    rw [Nat.succ_eq_add_one, hn, Nat.mul_comm] at hlow
    have h1 := Nat.lt_of_mul_lt_mul_left hlow
    have h2 := Nat.lt_of_mul_lt_mul_right hp
    omega
  simp only [State.endSlotHere, h.place, if_neg hmod]

theorem State.endSlotHere_last (h : (s.link l).InSlot cfg k p) (hp : p + 1 = (k.val + 1) * cfg.width) :
    s.endSlotHere l = s.endSlot l k cfg := by
  have hmod : (p + 1) % cfg.width = 0 := by rw [hp, Nat.mul_mod_left]
  simp only [State.endSlotHere, h.place, if_pos hmod, fin128_of_eq h.div]

/-- The end of a slot completes it, and leaves the link where it stands (R13). -/
theorem State.endSlot_link (h : (s.link l).InSlot cfg k p) (hp : p + 1 = (k.val + 1) * cfg.width) :
    (s.endSlot l k cfg).link l = { s.link l with completed := k.val + 1 } := by
  obtain ⟨hmoved, -⟩ := s.endSlot_spec (p := True) l k cfg
  rw [hmoved.link]
  rcases h.completed with hc | hc
  · have hpos : p = k.val * cfg.width + cfg.width - 1 := by rw [Nat.succ_mul] at hp; omega
    rw [if_pos hc.le, Link.completeAt, if_pos h.launched, ← hpos, ← h.bitPos]
  · rw [if_neg (by omega), ← hc]

theorem State.exec_complete (hst : (s.link l).state = .locked) (hc : (s.link l).config = some cfg) (hk : k.val < cfg.slots)
    (hn : (s.link l).completed = k.val) (hl : k.val < (s.link l).launched) (sample : U16) :
    exec (.receiveSlotComplete l k sample) s = .next (s.receiveSlot l k cfg sample) := by
  have hdue : (s.link l).mayComplete k.val = true := by simp [Link.mayComplete, hn, hl]
  have hslot : s.lockedSlot l k ((s.link l).mayComplete k.val) = some cfg := by
    rw [State.lockedSlot, if_pos ⟨hst, hdue⟩, hc]
    simp [hk]
  show Host.Outcome.next _ = _
  rw [hslot]

/-- The rows of the end of a slot: the receive-slot-complete, where it has not been raised, and the departure (R13, R68). -/
theorem runRows_endSlot {rows : List Instr} (h : runRows rows s
      = some (if (s.link l).completed ≤ k.val then s.receiveSlot l k cfg (s.link l).rxBits else s)) :
    runRows (rows ++ s.departures l k) s = some (s.endSlot l k cfg) := by
  rw [runRows_append, h, Option.bind_some]
  by_cases hlast : ∃ x, (s.map l).active[k.val].tx = some x ∧ x.lane.val + 1 = (s.chan x.chan).cfg.lanes
  · obtain ⟨x, hx, hlast⟩ := hlast
    have hrows : s.departures l k = [.groupDeparture x.chan] := by simp only [State.departures, hx, if_pos hlast]
    rw [s.endSlot_of_last l k cfg x hx hlast, hrows]
    exact runRows_single rfl
  · have hrows : s.departures l k = [] := by
      cases hx : (s.map l).active[k.val].tx with
      | none => simp only [State.departures, hx]
      | some x => simp only [State.departures, hx, if_neg fun h => hlast ⟨x, hx, h⟩]
    rw [s.endSlot_of_not_last l k cfg fun x hx h => hlast ⟨x, hx, h⟩, hrows]
    rfl

/-- Where the slot before the launched one has not completed, its end alone is due (R13). -/
theorem State.raiseDue_behind (hst : (s.link l).state = .locked) (hc : (s.link l).config = some cfg) (hw : 0 < cfg.width)
    (hp : (s.link l).bitPos = some ((k.val + 1) * cfg.width)) (hl : (s.link l).launched = k.val + 2)
    (hn : (s.link l).completed = k.val) : s.raiseDue l = s.endSlot l k cfg
      ∧ (s.endSlot l k cfg).link l = { s.link l with completed := k.val + 1 }
      ∧ (s.endSlot l k cfg).raiseDue l = s.endSlot l k cfg := by
  obtain ⟨hmoved, -⟩ := s.endSlot_spec (p := True) l k cfg
  have hlink : (s.endSlot l k cfg).link l = { s.link l with completed := k.val + 1 } := by
    rw [hmoved.link, if_pos hn.le, Link.completeAt, if_neg (by omega)]
  have hdiv : (k.val + 1) * cfg.width / cfg.width = k.val + 1 := Nat.mul_div_cancel _ hw
  have hplace : (s.link l).place = some (cfg, (k.val + 1) * cfg.width) := (Link.place_eq_some _ _ _).mpr ⟨hst, hc, hp⟩
  refine ⟨?_, hlink, State.raiseDue_of_raised _ l cfg ((k.val + 1) * cfg.width) ?_ ?_ ?_⟩
  · have hdue : (s.link l).completed < (k.val + 1) * cfg.width / cfg.width := by rw [hdiv, hn]; exact Nat.lt_succ_self _
    have hno : ¬ ((s.endSlot l k cfg).link l).launched ≤ (k.val + 1) * cfg.width / cfg.width := by
      rw [hlink, hdiv]
      show ¬ (s.link l).launched ≤ k.val + 1
      omega
    simp only [State.raiseDue, hplace, if_pos hdue, fin128_of_eq hn, if_neg hno]
  · rw [hlink]
    exact hplace
  · rw [hlink, hdiv]
    show k.val + 1 < (s.link l).launched
    omega
  · rw [hlink, hdiv]

end

/-! ## A bit clock in a slot -/

section
variable {s : State} {b : BitClock} {cfg : LinkConfig} {k : SlotId} {p : Nat} {u : State}

/-- Behind the slot's last bit the slot has ended where the samples are taken. -/
theorem State.bitClock_inSlot (h : s.device.resetLow = false) (hs : (s.link b.link).InSlot cfg k p)
    (hu : u = if p + 1 = (k.val + 1) * cfg.width then s.endSlot b.link k cfg else s) :
    s.bitClock b = ((u.setLink b.link ((u.link b.link).sampled b)).advance b.link (b.fsy && (s.link b.link).fsyLow)).raiseDue b.link := by
  by_cases hp : p + 1 = (k.val + 1) * cfg.width
  · rw [if_pos hp] at hu
    refine State.bitClock_locked h (by rw [State.raiseDue_inSlot hs, State.endSlotHere_last hs hp, hu]) ?_
    rw [hu, State.endSlot_link hs hp]
    exact hs.locked
  · rw [if_neg hp] at hu
    subst hu
    exact State.bitClock_locked h (by rw [State.raiseDue_inSlot hs, State.endSlotHere_within hs
      (lt_of_le_of_ne (Nat.succ_le_of_lt hs.upper) hp)]) hs.locked

/-- Where slot 0 has not launched, its launch alone is due, and the bit clock finds the part behind it (R13). -/
theorem State.bitClock_launches (h : s.device.resetLow = false) (hat : (s.link b.link).AtSlot cfg 0)
    (hp : (s.link b.link).bitPos = some 0) (hw : 0 < cfg.width) :
    (runRows [.transmitSlotLaunch b.link 0] s).map (State.bitClock b) = some (s.bitClock b) := by
  have hdue : s.raiseDue b.link = s.transmitSlot b.link 0 cfg := State.raiseDue_atSlot hat (by simpa using hp) hw
  obtain ⟨txd, hmoved, -⟩ := s.transmitSlot_spec (p := True) b.link 0 cfg
  have hagain : (s.transmitSlot b.link 0 cfg).raiseDue b.link = s.transmitSlot b.link 0 cfg := by
    refine State.raiseDue_of_raised _ b.link cfg 0 ?_ ?_ ?_ <;> rw [hmoved.link]
    · exact (Link.place_eq_some _ _ _).mpr ⟨hat.locked, hat.config, by simp [Link.launchAt]⟩
    · simp [Link.launchAt]
    · simp
  rw [runRows_single (State.exec_launch hat), Option.map_some]
  exact congrArg some (State.bitClock_congr (congrArg Device.resetLow hmoved.device)
    ((congrArg Link.fsyLow hmoved.link).trans rfl) (hagain.trans hdue.symm) h)

/-- Where a slot has launched ahead of the end of the slot before, that end alone is due (R13). -/
theorem State.bitClock_behind (h : s.device.resetLow = false) (hst : (s.link b.link).state = .locked)
    (hc : (s.link b.link).config = some cfg) (hw : 0 < cfg.width) (hk : k.val < cfg.slots)
    (hp : (s.link b.link).bitPos = some ((k.val + 1) * cfg.width)) (hl : (s.link b.link).launched = k.val + 2)
    (hn : (s.link b.link).completed = k.val) :
    (runRows (.receiveSlotComplete b.link k (s.link b.link).rxBits :: s.departures b.link k) s).map (State.bitClock b)
      = some (s.bitClock b) := by
  obtain ⟨hdue, hlink, hagain⟩ := State.raiseDue_behind hst hc hw hp hl hn
  obtain ⟨hmoved, -⟩ := s.endSlot_spec (p := True) b.link k cfg
  have hrows := runRows_endSlot (s := s) (l := b.link) (k := k) (cfg := cfg)
    (rows := [.receiveSlotComplete b.link k (s.link b.link).rxBits])
    (by rw [if_pos hn.le]; exact runRows_single (State.exec_complete hst hc hk hn (by omega) _))
  rw [List.singleton_append] at hrows
  rw [hrows, Option.map_some]
  exact congrArg some (State.bitClock_congr (congrArg Device.resetLow hmoved.device) ((congrArg Link.fsyLow hlink).trans rfl)
    (hagain.trans hdue.symm) h)

end

/-! ## What follows the samples of a LOCKED link -/

section
variable {v : State} {l : LinkId} {cfg : LinkConfig} {k : SlotId} {p : Nat} {pulse : Bool}

/-- In a slot the bit position advances by one (R6). -/
theorem State.advance_inSlot (h : (v.link l).InSlot cfg k p) (hp : p + 1 < (k.val + 1) * cfg.width) (hoff : p + 1 ≠ cfg.frameLength)
    (hs : ¬ (pulse = true ∧ cfg.role = .roleIn)) :
    (v.advance l pulse).raiseDue l = v.setLink l { v.link l with bitPos := some (p + 1) } := by
  rw [State.advance_within h.place hoff hs]
  refine State.raiseDue_inSlot (cfg := cfg) (k := k) (p := p + 1) ?_
  rw [State.setLink_link_same]
  exact h.at (Nat.le_succ_of_le h.lower) hp

/-- A pulse off the boundary is a slip (R11). -/
theorem runRows_advance_slip (h : (v.link l).InSlot cfg k p) (hoff : p + 1 ≠ cfg.frameLength) (hr : cfg.role = .roleIn)
    (hw : 0 < cfg.width) : runRows [.slip l, .transmitSlotLaunch l 0] v = some ((v.advance l true).raiseDue l) := by
  rw [State.advance_slip h.place hoff ⟨rfl, hr⟩]
  exact runRows_slip h.locked h.config hr h.bitPos hoff (h.launched ▸ Nat.succ_pos _) (Nat.zero_lt_of_lt h.inFrame) hw

/-- Behind the last bit of a slot the next one launches (R13). -/
theorem runRows_advance_next {next : SlotId} (h : (v.link l).InSlot cfg k p) (hdone : (v.link l).completed = k.val + 1)
    (hlast : p + 1 = (k.val + 1) * cfg.width) (hnext : next.val = k.val + 1) (hin : next.val < cfg.slots) (hw : 0 < cfg.width)
    (hs : ¬ (pulse = true ∧ cfg.role = .roleIn)) :
    runRows [.transmitSlotLaunch l next] v = some ((v.advance l pulse).raiseDue l) := by
  have hoff : p + 1 ≠ cfg.frameLength := by
    rw [hlast, ← hnext]
    exact (Nat.mul_lt_mul_of_pos_right hin hw).ne
  have hat : (v.link l).AtSlot cfg next := ⟨h.locked, h.config, hin, h.launched.trans hnext.symm, hdone.trans hnext.symm⟩
  have hat' : ({ v.link l with bitPos := some (p + 1) } : Link).AtSlot cfg next :=
    ⟨hat.locked, hat.config, hin, hat.launched, hat.completed⟩
  rw [runRows_single (State.exec_launch hat), State.advance_within h.place hoff hs,
    State.raiseDue_atSlot (cfg := cfg) (k := next) (by rw [State.setLink_link_same]; exact hat')
      (by rw [State.setLink_link_same, hnext, ← hlast]) hw, State.transmitSlot_bitPos]

/-- The frame boundary, with what the role and the pulse make of it (R7, R9, R10). -/
theorem runRows_advance_boundary (h : (v.link l).InSlot cfg k p) (hdone : (v.link l).completed = k.val + 1)
    (hlast : p + 1 = (k.val + 1) * cfg.width) (hfull : k.val + 1 = cfg.slots) (hw : 0 < cfg.width) :
    (cfg.role = .roleOut → runRows [.frameBoundaryOut l, .transmitSlotLaunch l 0] v = some ((v.advance l pulse).raiseDue l))
    ∧ (cfg.role = .roleIn → runRows [.syncOnTime l, .transmitSlotLaunch l 0] v = some ((v.advance l true).raiseDue l))
    ∧ (cfg.role = .roleIn → (v.link l).missed = 0 →
        runRows [.freewheel l, .transmitSlotLaunch l 0] v = some ((v.advance l false).raiseDue l))
    ∧ (cfg.role = .roleIn → (v.link l).missed = 1 → runRows [.linkLoss l] v = some ((v.advance l false).raiseDue l)) := by
  have hat : p + 1 = cfg.frameLength := by rw [hlast, hfull, LinkConfig.frameLength]
  have hn : 0 < cfg.slots := Nat.zero_lt_of_lt h.inFrame
  have hpos : (v.link l).bitPos = some (cfg.slots * cfg.width - 1) := by
    rw [h.bitPos, show cfg.slots * cfg.width = p + 1 from hat.symm, Nat.add_sub_cancel]
  have hcompleted : (v.link l).completed = cfg.slots := hdone.trans hfull
  refine ⟨fun hr => ?_, fun hr => ?_, fun hr hm => ?_, fun hr hm => ?_⟩
  · rw [State.advance_out h.place hat hr]
    exact runRows_boundary rfl h.locked h.config hpos hcompleted (.inr (.inr ⟨rfl, hr, rfl, rfl⟩)) hn hw
  · rw [State.advance_onTime h.place hat hr]
    exact runRows_boundary rfl h.locked h.config hpos hcompleted (.inl ⟨rfl, hr, rfl, rfl⟩) hn hw
  · rw [State.advance_missed h.place hat hr, if_pos (by rw [hm]; decide)]
    exact runRows_boundary rfl h.locked h.config hpos hcompleted (.inr (.inl ⟨rfl, hr, hm, rfl, rfl⟩)) hn hw
  · rw [State.advance_missed h.place hat hr, if_neg (by rw [hm]; decide),
      State.raiseDue_of_not_locked _ l (State.linkLoss_hunts (hr ▸ Link.boundaryAs_of h.locked h.config hpos hcompleted) hm)]
    exact runRows_single rfl

end

end Sys2Proof.Machine

namespace Sys2Proof.Proofs
open Sys2Proof.Machine

/-- Settles O33: the events that are due, the samples, and what the place of the link and the pulse make of it. -/
theorem bitClockMovesTheLink : Obligations.BitClockMovesTheLink := by
  unfold Obligations.BitClockMovesTheLink
  intro s l fsy rxd b out sampled pulse
  have hsampled (u : State) (hu : (u.link l).config = (s.link l).config) : sampled u = u.setLink l ((u.link l).sampled b) :=
    congrArg (u.setLink l) (Link.sampled_eq (u.link l) b out (by rw [hu])).symm
  have hyes (hp : pulse) : (b.fsy && (s.link l).fsyLow) = true := Bool.and_eq_true_iff.mpr hp
  have hno (hp : ¬ pulse) : (b.fsy && (s.link l).fsyLow) = false := Bool.eq_false_iff.mpr fun h => hp (Bool.and_eq_true_iff.mp h)
  refine ⟨fun hlow => s.bitClock_low b hlow, fun hlow => ⟨fun h => ?_, fun cfg hc hn hw => ⟨fun hst hr hp => ?_, fun hst =>
    ⟨fun hp hl hd => ?_, fun k hk hp hl hd => ?_, fun k p hk hp hlo hl hd => ?_⟩⟩⟩⟩
  · rw [hsampled s rfl]
    rcases h with hoff | ⟨hst, hp⟩
    · exact s.bitClock_off b hlow hoff
    · rw [State.bitClock_hunting (b := b) hlow hst, hno hp]
      refine State.raiseDue_of_not_locked _ l ?_
      rw [if_neg (by decide), State.setLink_link_same, Link.sampled_state, hst]
      decide
  · rw [hsampled s rfl, State.bitClock_hunting (b := b) hlow hst, hyes hp]
    refine runRows_lock ?_ ?_ hr hn hw <;> rw [State.setLink_link_same]
    · exact hst
    · exact hc
  · exact State.bitClock_launches (b := b) hlow ⟨hst, hc, hn, hl, hd⟩ hp hw
  · exact State.bitClock_behind (b := b) hlow hst hc hw (by omega) hp hl hd
  · intro slips
    have hin (hup : p < (k.val + 1) * cfg.width) : (s.link l).InSlot cfg k p := ⟨hst, hc, hp, hlo, hup, hk, hl, hd⟩
    have hslips (h : ¬ slips) : ¬ ((b.fsy && (s.link l).fsyLow) = true ∧ cfg.role = .roleIn) :=
      fun ⟨hp, hr⟩ => h ⟨Bool.and_eq_true_iff.mp hp, hr⟩
    refine ⟨fun hwithin => ?_, fun hlast => ?_⟩
    · have hin := hin (by omega)
      have hend : (k.val + 1) * cfg.width ≤ cfg.frameLength := Nat.mul_le_mul_right _ hk
      have hoff : p + 1 ≠ cfg.frameLength := by omega
      have hin' : ((sampled s).link l).InSlot cfg k p := by
        rw [hsampled s rfl, State.setLink_link_same]
        exact hin.sampled b
      rw [State.bitClock_inSlot (b := b) hlow hin (u := s) (by rw [if_neg hwithin.ne]), ← hsampled s rfl]
      refine ⟨fun hs => State.advance_inSlot hin' hwithin hoff (hslips hs), fun hs => ?_⟩
      rw [hyes hs.1]
      exact runRows_advance_slip hin' hoff hs.2 hw
    · intro ends
      have hin := hin (by omega)
      obtain ⟨u, hu⟩ : ∃ u, u = s.endSlot l k cfg := ⟨_, rfl⟩
      have hrows : runRows (ends ++ s.departures l k) s = some u := by
        rw [hu]
        refine runRows_endSlot ?_
        rcases hd with hd | hd
        · rw [if_pos hd.le, show ends = [.receiveSlotComplete l k (s.link l).rxBits] from if_pos hd]
          exact runRows_single (State.exec_complete hst hc hk hd (by omega) _)
        · rw [if_neg (by omega), show ends = [] from if_neg (by omega)]
          rfl
      have hlink : u.link l = { s.link l with completed := k.val + 1 } := by rw [hu, State.endSlot_link hin hlast]
      have hclock := State.bitClock_inSlot (b := b) hlow hin (u := u) (by rw [if_pos hlast, hu])
      rw [← hsampled u (by rw [hlink])] at hclock
      obtain ⟨v, hv⟩ : ∃ v, v = sampled u := ⟨_, rfl⟩
      have hvl : v.link l = ({ s.link l with completed := k.val + 1 } : Link).sampled b := by
        rw [hv, hsampled u (by rw [hlink]), State.setLink_link_same, hlink]
      have hin' : (v.link l).InSlot cfg k p := by
        rw [hvl]
        exact Link.InSlot.sampled (x := { s.link l with completed := k.val + 1 })
          ⟨hst, hc, hp, hlo, by omega, hk, hl, .inr rfl⟩ b
      have hdone : (v.link l).completed = k.val + 1 := by rw [hvl]; rfl
      have hmissed : (v.link l).missed = (s.link l).missed := by rw [hvl]; rfl
      refine ⟨u, hrows, ?_⟩
      intro goes
      have hgoes (rows : List Instr) : goes rows
          ↔ runRows rows v = some ((v.advance l (b.fsy && (s.link l).fsyLow)).raiseDue l) := by rw [hv, ← hclock]
      simp only [hgoes]
      refine ⟨fun next hnext hin => ⟨fun hs => ?_, fun hs => ?_⟩, fun hfull => ?_⟩
      · exact runRows_advance_next hin' hdone hlast hnext hin hw (hslips hs)
      · rw [hyes hs.1]
        refine runRows_advance_slip hin' ?_ hs.2 hw
        rw [hlast, ← hnext]
        exact (Nat.mul_lt_mul_of_pos_right hin hw).ne
      · obtain ⟨hout, htime, hfree, hloss⟩ := runRows_advance_boundary (pulse := b.fsy && (s.link l).fsyLow) hin' hdone hlast hfull hw
        refine ⟨hout, fun hs => ?_, fun hr hp hm => ?_, fun hr hp hm => ?_⟩
        · rw [hyes hs.1]
          exact htime hs.2
        · rw [hno hp]
          exact hfree hr (hmissed.trans hm)
        · rw [hno hp]
          exact hloss hr (hmissed.trans hm)

end Sys2Proof.Proofs
end
